-- ==== Sys2Proof/Word.lean ====
section
/-! DEFINITION. The two word types of the block: the byte it computes with and the 16-bit request word. -/

namespace Sys2Proof

/-- A byte: the only data width of the block (00_scope.md R7, R9). Bit 0 is the least significant bit. -/
abbrev Byte := BitVec 8

/-- A request word (30_encoding.md R51). Bit 15 is the most significant bit. -/
abbrev Word := BitVec 16

end Sys2Proof
end

