-- ==== Sys2Proof/Config.lean ====
section
/-! DEFINITION. The parameters of the block (00_scope.md R5) as one record, their default values, the
constraints R5 puts on them, and the values the spec leaves open (constants with no body). -/

namespace Sys2Proof

/-- The display lines a cursor position may name: "line ∈ {1,2,3,4}" (R5 LINES, R97). -/
inductive DisplayLine where
  | l1 | l2 | l3 | l4
  deriving DecidableEq, Repr, Inhabited

/-- The line's number on the request interface (R55: numbered from 1). -/
def DisplayLine.number : DisplayLine → Nat
  | .l1 => 1
  | .l2 => 2
  | .l3 => 3
  | .l4 => 4

/-- One triple of the banner (42_init.md R113). "Each line in {1,2,3,4}" holds by the type of `line`. -/
structure BannerEntry where
  line : DisplayLine
  col  : Byte
  text : List Byte
  deriving DecidableEq, Repr, Inhabited

/-- BANNER[0..3], in the order they are sent (R113). -/
structure Banner where
  b0 : BannerEntry
  b1 : BannerEntry
  b2 : BannerEntry
  b3 : BannerEntry
  deriving DecidableEq, Repr, Inhabited

/-- The configuration record of R5. DATA_PORT, CTRL_PORT, LINES, COLS and STR_MAX are fixed and stand
below as constants. No operation writes a parameter (10_state.md R24, 20_memory.md R43). -/
structure Params where
  rsMask            : Byte
  rwMask            : Byte
  enMask            : Byte
  cmdClearDisplay   : Byte
  cmdCursorHome     : Byte
  cmdEntryMode      : Byte
  entryIncrement    : Byte
  entryNoShift      : Byte
  cmdDisplayControl : Byte
  displayOn         : Byte
  cursorOn          : Byte
  blinkOn           : Byte
  cmdFunctionSet    : Byte
  function8Bit      : Byte
  function2Line     : Byte
  function5x7       : Byte
  cmdSetDdram       : Byte
  lineBase1         : Byte
  lineBase2         : Byte
  lineBase3         : Byte
  lineBase4         : Byte
  tEnableUs         : Nat
  tDataUs           : Nat
  tCmdUs            : Nat
  tBootMs           : Nat
  tFsetMs           : Nat
  tClearMs          : Nat
  tHomeMs           : Nat
  banner            : Banner
  addrDefault       : Int
  pathDefault       : List Byte
  msgInvalidLine    : List Byte
  deriving DecidableEq, Repr

namespace Config

/-- COLS: display columns, fixed (R5). -/
def cols : Nat := 20

/-- STR_MAX: the longest text one WRSTR or SETPATH request carries (R5, 30_encoding.md R52). -/
def strMax : Nat := 4095

/-- BANNER is OPEN (R5, R113, 92 D10): no claim can depend on what it is. Log 7. -/
opaque banner : Banner

/-- ADDR_DEFAULT is OPEN (R5, R17, 92 D11). Log 7. -/
opaque addrDefault : Int

/-- PATH_DEFAULT is OPEN (R5, R18, 92 D11). Log 7. -/
opaque pathDefault : List Byte

/-- MSG_INVALID_LINE is OPEN (R5, R132, 92 D12). Log 7. -/
opaque msgInvalidLine : List Byte

/-- The free values: `freePins k` is the k-th byte the spec calls "any value" of a port's pins
(10_state.md R21, 93 U1, U7, U8). It has no body, so nothing constrains it. Log 8. -/
opaque freePins : Nat → Byte

/-- R5's table: the default of every parameter that has one (the spec's own numbers and the HD44780
command set, log 6), and the OPEN constants for the rest. -/
def default : Params where
  rsMask            := 0x01#8
  rwMask            := 0x02#8
  enMask            := 0x04#8
  cmdClearDisplay   := 0x01#8
  cmdCursorHome     := 0x02#8
  cmdEntryMode      := 0x04#8
  entryIncrement    := 0x02#8
  entryNoShift      := 0x00#8
  cmdDisplayControl := 0x08#8
  displayOn         := 0x04#8
  cursorOn          := 0x02#8
  blinkOn           := 0x01#8
  cmdFunctionSet    := 0x20#8
  function8Bit      := 0x10#8
  function2Line     := 0x08#8
  function5x7       := 0x00#8
  cmdSetDdram       := 0x80#8
  lineBase1         := 0x00#8
  lineBase2         := 0x40#8
  lineBase3         := 0x14#8
  lineBase4         := 0x54#8
  tEnableUs         := 20
  tDataUs           := 40
  tCmdUs            := 50
  tBootMs           := 15
  tFsetMs           := 5
  tClearMs          := 2
  tHomeMs           := 2
  banner            := banner
  addrDefault       := addrDefault
  pathDefault       := pathDefault
  msgInvalidLine    := msgInvalidLine

end Config

/-- A byte with exactly one bit set (R5: "one bit set"). -/
def oneBitSet (v : Byte) : Bool :=
  v == 0x01#8 || v == 0x02#8 || v == 0x04#8 || v == 0x08#8 ||
  v == 0x10#8 || v == 0x20#8 || v == 0x40#8 || v == 0x80#8

/-- R5, column "constraint", for the three masks: each one bit, pairwise distinct. -/
def Params.masksOk (p : Params) : Bool :=
  oneBitSet p.rsMask && oneBitSet p.rwMask && oneBitSet p.enMask &&
  p.rsMask != p.rwMask && p.rsMask != p.enMask && p.rwMask != p.enMask

/-- R5, column "constraint", and the order relations of 70_reset_and_hazards.md R166 for the delays:
T(EN) < T(DATA) < T(CMD) < T(CLEAR), all positive. DESIGN CHOICE (log 27), two points that R5, R166 and 92 D6 leave
open: T(HOME) has no inequality, only "the same class of longer delay as clear", and is read as T(CMD) < T(HOME), with no
relation to T(CLEAR); "of the order of microseconds" (EN, DATA, CMD) and "of the order of milliseconds" (BOOT, FSET,
CLEAR, HOME) have no bounds, and are read as the unit each parameter counts in, with no bound on its magnitude. -/
def Params.delaysOk (p : Params) : Bool :=
  decide (0 < p.tEnableUs) && decide (p.tEnableUs < p.tDataUs) && decide (p.tDataUs < p.tCmdUs) &&
  decide (0 < p.tBootMs) && decide (0 < p.tFsetMs) &&
  decide (p.tCmdUs < 1000 * p.tClearMs) && decide (p.tCmdUs < 1000 * p.tHomeMs)

/-- The constraints a configuration must meet (R5). The banner's lines are valid by their type; that
MSG_INVALID_LINE differs from every adapter message is a condition on the adapter (`Machine.messagesDistinct`). -/
def Params.wf (p : Params) : Bool :=
  p.masksOk && p.delaysOk

end Sys2Proof
end

