-- ==== Sys2Proof/Syntax.lean ====
section
/-! DEFINITION. The operations of the block as abstract syntax: one constructor per row of opcode_table.json. -/

namespace Sys2Proof

/-- The twelve operations of 00_scope.md R4, with their operands as 30_encoding.md R52 gives them. -/
inductive Instr where
  /-- INIT: the power-on sequence (42_init.md R110). -/
  | init
  /-- CLEAR (41_command_layer.md R93). -/
  | clear
  /-- HOME (R94). -/
  | home
  /-- SETDISP cur, blk: cursor visible, blink enabled (R95). -/
  | setdisp (cur blk : Bool)
  /-- SETCUR line, col: 4-bit line, 8-bit column (R97, R98). -/
  | setcur (line : BitVec 4) (col : Byte)
  /-- WRSTR text (R101). -/
  | wrstr (text : List Byte)
  /-- WRCMD b (R92). -/
  | wrcmd (b : Byte)
  /-- WRDAT b (R91). -/
  | wrdat (b : Byte)
  /-- GETERR (43_status_config.md R120). -/
  | geterr
  /-- FAILED (R121). -/
  | failed
  /-- SETADDR addr (R122). -/
  | setaddr (addr : Byte)
  /-- SETPATH path (R123). -/
  | setpath (path : List Byte)
  deriving DecidableEq, Repr

end Sys2Proof
end

