-- ==== Sys2Proof/WellFormed.lean ====
section
/-! DEFINITION. Which operations the request interface can carry. -/

namespace Sys2Proof

/-- A text fits a request when its length fits the 12-bit `len` field: 0 to STR_MAX (30_encoding.md R52). -/
def textFits (t : List Byte) : Bool :=
  decide (t.length ≤ Config.strMax)

/-- The only operand with more values than its field is a text (R52, R60). -/
def Instr.wf : Instr → Bool
  | .init => true
  | .clear => true
  | .home => true
  | .setdisp _ _ => true
  | .setcur _ _ => true
  | .wrstr text => textFits text
  | .wrcmd _ => true
  | .wrdat _ => true
  | .geterr => true
  | .failed => true
  | .setaddr _ => true
  | .setpath path => textFits path

end Sys2Proof
end

