-- ==== Sys2Proof/Decode.lean ====
section
/-! DEFINITION. Request words to operations (30_encoding.md part A): the decoder, total on any list of words,
and after it the encoder, from the same tables. -/

namespace Sys2Proof

/-- Why a request is illegal (30_encoding.md R59). -/
inductive Illegal where
  /-- (a) the header's op is 0x0, 0xD, 0xE or 0xF. -/
  | reservedOpcode
  /-- (b) a "must be 0" field of the header's format is not 0. -/
  | mustBeZero
  /-- (c) a payload word has a bit of 15:8 set. -/
  | badPayload
  deriving DecidableEq, Repr

/-- What the words at the request interface begin with. -/
inductive Decoded where
  /-- No whole request yet: no header, or fewer payload words than the header counts (R50, R56). -/
  | incomplete
  /-- A whole request that R59 calls illegal, and the words after it. -/
  | illegal (why : Illegal) (rest : List Word)
  /-- A whole legal request, and the words after it. -/
  | legal (i : Instr) (rest : List Word)
  deriving DecidableEq, Repr

/-- Bits 15:12 of a header word (R51). -/
def opField (w : Word) : BitVec 4 := w.extractLsb' 12 4

/-- Bits 11:0: `len` of Format S, the must-be-zero field of Format N (R51). -/
def lenField (w : Word) : BitVec 12 := w.extractLsb' 0 12

/-- Bits 11:8: `line` of Format P, must-be-zero in Format B (R51). -/
def lineField (w : Word) : BitVec 4 := w.extractLsb' 8 4

/-- Bits 7:0: `b`, `addr`, `col` and `ch` (R52). -/
def byteField (w : Word) : Byte := w.extractLsb' 0 8

/-- Bits 15:8 of a payload word, which must be 0 (R51 Format C). -/
def payloadHigh (w : Word) : Byte := w.extractLsb' 8 8

/-- Bits 11:2, must-be-zero in Format F (R51). -/
def flagsZeroField (w : Word) : BitVec 10 := w.extractLsb' 2 10

/-- A payload word keeps Format C (R51). -/
def payloadOk (w : Word) : Bool := payloadHigh w == 0#8

/-- At least `n` words have arrived. -/
def arrived : Nat → List Word → Bool
  | 0, _ => true
  | _ + 1, [] => false
  | n + 1, _ :: ws => arrived n ws

/-- Format N: no operand (R51). -/
def decodeN (i : Instr) (w : Word) (rest : List Word) : Decoded :=
  if lenField w = 0#12 then .legal i rest else .illegal .mustBeZero rest

/-- Format B: one byte (R51). -/
def decodeB (mk : Byte → Instr) (w : Word) (rest : List Word) : Decoded :=
  if lineField w = 0#4 then .legal (mk (byteField w)) rest else .illegal .mustBeZero rest

/-- Format F: cur = word[1], blk = word[0] (R51, R52). -/
def decodeF (w : Word) (rest : List Word) : Decoded :=
  if flagsZeroField w = 0#10 then .legal (.setdisp (w.getLsbD 1) (w.getLsbD 0)) rest
  else .illegal .mustBeZero rest

/-- Format P: line and col; every value is encodable (R51, R52). -/
def decodeP (w : Word) (rest : List Word) : Decoded :=
  .legal (.setcur (lineField w) (byteField w)) rest

/-- Format S: `len` payload words follow; TEXT[i] is the low byte of the i-th (R52). The whole request, its payload
included, is taken or refused together (R56, R59 (c)). -/
def decodeS (mk : List Byte → Instr) (w : Word) (rest : List Word) : Decoded :=
  let len := (lenField w).toNat
  if arrived len rest then
    if (rest.take len).all payloadOk then .legal (mk ((rest.take len).map byteField)) (rest.drop len)
    else .illegal .badPayload (rest.drop len)
  else .incomplete

/-- The opcode map of R53: the header's op selects the format; every other op is reserved (R59 (a)). -/
def decodeRequest : List Word → Decoded
  | [] => .incomplete
  | w :: rest =>
    match (opField w).toNat with
    | 0x1 => decodeN .init w rest
    | 0x2 => decodeN .clear w rest
    | 0x3 => decodeN .home w rest
    | 0x4 => decodeF w rest
    | 0x5 => decodeP w rest
    | 0x6 => decodeS .wrstr w rest
    | 0x7 => decodeB .wrcmd w rest
    | 0x8 => decodeB .wrdat w rest
    | 0x9 => decodeN .geterr w rest
    | 0xA => decodeN .failed w rest
    | 0xB => decodeB .setaddr w rest
    | 0xC => decodeS .setpath w rest
    | _ => .illegal .reservedOpcode rest

/-- How many payload words follow a header: decided by the header alone (R56). -/
def payloadCount (header : Word) : Nat :=
  if opField header = 0x6#4 ∨ opField header = 0xC#4 then (lenField header).toNat else 0

/-! The encoder (R51, R53, R63). -/

def encodeN (op : BitVec 4) : List Word := [op ++ 0#12]

def encodeB (op : BitVec 4) (b : Byte) : List Word := [op ++ 0#4 ++ b]

def encodeF (op : BitVec 4) (cur blk : Bool) : List Word :=
  [op ++ 0#10 ++ BitVec.ofBool cur ++ BitVec.ofBool blk]

def encodeP (op line : BitVec 4) (col : Byte) : List Word := [op ++ line ++ col]

/-- Format C, one word 0x00cc per byte (R63). -/
def encodePayload (text : List Byte) : List Word := text.map fun ch => 0#8 ++ ch

def encodeS (op : BitVec 4) (text : List Byte) : List Word :=
  (op ++ BitVec.ofNat 12 text.length) :: encodePayload text

/-- The words of an operation (R63). Meant for a well-formed one: a longer text does not fit `len`. -/
def encode : Instr → List Word
  | .init => encodeN 0x1#4
  | .clear => encodeN 0x2#4
  | .home => encodeN 0x3#4
  | .setdisp cur blk => encodeF 0x4#4 cur blk
  | .setcur line col => encodeP 0x5#4 line col
  | .wrstr text => encodeS 0x6#4 text
  | .wrcmd b => encodeB 0x7#4 b
  | .wrdat b => encodeB 0x8#4 b
  | .geterr => encodeN 0x9#4
  | .failed => encodeN 0xA#4
  | .setaddr addr => encodeB 0xB#4 addr
  | .setpath path => encodeS 0xC#4 path

/-- The match value of an operation's row in R53. -/
def rowMatch : Instr → Word
  | .init => 0x1000#16
  | .clear => 0x2000#16
  | .home => 0x3000#16
  | .setdisp _ _ => 0x4000#16
  | .setcur _ _ => 0x5000#16
  | .wrstr _ => 0x6000#16
  | .wrcmd _ => 0x7000#16
  | .wrdat _ => 0x8000#16
  | .geterr => 0x9000#16
  | .failed => 0xA000#16
  | .setaddr _ => 0xB000#16
  | .setpath _ => 0xC000#16

/-- The mask of an operation's row in R53. -/
def rowMask : Instr → Word
  | .init => 0xFFFF#16
  | .clear => 0xFFFF#16
  | .home => 0xFFFF#16
  | .setdisp _ _ => 0xFFFC#16
  | .setcur _ _ => 0xF000#16
  | .wrstr _ => 0xF000#16
  | .wrcmd _ => 0xFF00#16
  | .wrdat _ => 0xFF00#16
  | .geterr => 0xFFFF#16
  | .failed => 0xFFFF#16
  | .setaddr _ => 0xFF00#16
  | .setpath _ => 0xF000#16

/-! Words as opcode_table.json numbers their bits. -/

/-- `n` words read from a number, bits 15:0 first. -/
def wordsOfNat : Nat → Nat → List Word
  | 0, _ => []
  | n + 1, w => BitVec.ofNat 16 w :: wordsOfNat n (w >>> 16)

/-- The whole request whose header is the low 16 bits of `w` (bits above `nbits` are 0), with as many payload
words as the header counts. -/
def tableWords (nbits w : Nat) : List Word :=
  let v := w % 2 ^ nbits
  let header : Word := BitVec.ofNat 16 v
  header :: wordsOfNat (payloadCount header) (v >>> 16)

/-- The operation the decoder reads from a table row's word. -/
def decodeTableWord (nbits w : Nat) : Option Instr :=
  match decodeRequest (tableWords nbits w) with
  | .incomplete => none
  | .illegal _ _ => none
  | .legal i _ => some i

end Sys2Proof
end

