-- ==== Sys2Proof/Machine/State.lean ====
section
/-! DEFINITION. The state of the block, of the ports it writes and of its interfaces, as plain data; its value
after reset; the reasons a step can stop. -/

namespace Sys2Proof.Machine

/-- The port space: "two addresses, 0 and 1" (20_memory.md R30, R31). No other address can be written down (R37). -/
inductive Port where
  | p0 | p1
  deriving DecidableEq, Repr

/-- DATA_PORT: "8-bit parallel data bus to the LCD" (R31, 00_scope.md R5). -/
def dataPort : Port := .p0

/-- CTRL_PORT: register-select, read/write and enable bits (R31, 00_scope.md R5). -/
def ctrlPort : Port := .p1

/-- DIR[p] (10_state.md R20). -/
inductive Dir where
  | unknown | output
  deriving DecidableEq, Repr

/-- The delay classes (10_state.md R13, 70_reset_and_hazards.md R166). -/
inductive DelayClass where
  | en | data | cmd | boot | fset | clear | home
  deriving DecidableEq, Repr

/-- The three forms of a micro-operation, "and nothing else is ever issued by the block" (10_state.md R13). -/
inductive MicroOp where
  /-- MODE p: setPortMode(p, output). -/
  | mode (p : Port)
  /-- WR p v: writePort(p, v). -/
  | wr (p : Port) (v : Byte)
  /-- WAIT c: at least T(c) of no micro-operation. -/
  | wait (c : DelayClass)
  deriving DecidableEq, Repr

/-- The adapter's answer to one port call (60_exceptions.md R142). -/
inductive Answer where
  | ok
  | fail (msg : List Byte)
  deriving DecidableEq, Repr

/-- SEQ, the sequencer position (10_state.md R12). -/
inductive Seq where
  | idle
  | run (ops : List MicroOp) (i : Nat)
  deriving DecidableEq, Repr

/-- The failure kinds (60_exceptions.md R130), NONE being the reset value of ERR.kind. -/
inductive FailureKind where
  | none | transport | invalidLine
  deriving DecidableEq, Repr

/-- The record ERR (10_state.md R16). -/
structure ErrRecord where
  kind : FailureKind
  text : List Byte
  deriving DecidableEq, Repr

/-- The operand latches of 10_state.md R11. `none` is the spec's own "no value": a latch has a value only during an
operation. -/
structure Latches where
  ctrl : Option Byte
  data : Option Byte
  line : Option (BitVec 4)
  col  : Option Byte
  cur  : Option Bool
  blk  : Option Bool
  text : Option (List Byte)
  deriving DecidableEq, Repr

/-- No latch has a value: between operations (R11) and after reset (R23). -/
def Latches.empty : Latches where
  ctrl := none
  data := none
  line := none
  col  := none
  cur  := none
  blk  := none
  text := none

/-- One port of the expander: OUT[p] and DIR[p] (10_state.md R20). -/
structure PortState where
  out : Byte
  dir : Dir
  deriving DecidableEq, Repr

/-- One entry of the trace (00_scope.md R7): a performed micro-operation, the adapter's answer (ok for a WAIT), and
the ADDR and PATH in force when it was performed (60_exceptions.md R142: later calls go to that address, through that
path). -/
structure Event where
  op     : MicroOp
  answer : Answer
  addr   : Int
  path   : List Byte
  deriving DecidableEq, Repr

/-- The response codes (30_encoding.md R62). -/
inductive RespCode where
  | ok | fail | refused
  deriving DecidableEq, Repr

/-- The value of a response: ERR for GETERR, FAIL for FAILED, otherwise none (R62). -/
inductive RespValue where
  | none
  | err (e : ErrRecord)
  | flag (b : Bool)
  deriving DecidableEq, Repr

/-- One response (R62). -/
structure Response where
  code  : RespCode
  value : RespValue
  deriving DecidableEq, Repr

/-- The whole state. -/
@[ext]
structure State where
  /-- The parameters (00_scope.md R5); no step changes them (10_state.md R24). Log 5. -/
  cfg        : Params
  /-- FAIL, the sticky failure flag (10_state.md R15). -/
  fail       : Bool
  /-- ERR, the last failure (R16). -/
  err        : ErrRecord
  /-- ADDR, the expander's slave address, an integer (R17). -/
  addr       : Int
  /-- PATH, the transport endpoint (R18). -/
  path       : List Byte
  /-- SEQ (R12). -/
  seq        : Seq
  /-- CTRL, DATA, LINE, COL, CUR, BLK, TEXT (R11). -/
  latches    : Latches
  /-- OUT[0] and DIR[0] (R20). -/
  port0      : PortState
  /-- OUT[1] and DIR[1] (R20). -/
  port1      : PortState
  /-- The model's own ghost, like OUT and DIR no state of the block: a port call has failed, a reset or another endpoint
  has come between, since the last `MODE` answered ok; in IDLE, `false` says that INIT has put the bus in a known state
  and nothing has lost it since (60_exceptions.md R137, 70_reset_and_hazards.md R153.3, R161). Log 28. -/
  busLost    : Bool
  /-- The adapter's own last error string (R22 (b), 60_exceptions.md R142 `lastError`). Log 17. -/
  adapterErr : List Byte
  /-- Input: the adapter's answers the block has not used yet; empty: it has not answered (R24, 60_exceptions.md
  R141). Log 2. -/
  answers    : List Answer
  /-- Input: how many of the coming WAITs have run out and not been passed yet; 0: the timer is still running
  (60_exceptions.md R143, 70_reset_and_hazards.md R165, R168). Log 15. -/
  elapsed    : Nat
  /-- Input: the words at the request interface, not yet taken (30_encoding.md R50). Log 3. -/
  requests   : List Word
  /-- Input: reset is asserted (70_reset_and_hazards.md R150). Log 4. -/
  rst        : Bool
  /-- Everything performed so far, oldest first (00_scope.md R7). Log 16. -/
  trace      : List Event
  /-- Every response so far, oldest first (30_encoding.md R62). Log 16. -/
  responses  : List Response
  /-- The model's own: how many free values have been used (93 Part 1 "any value"). Log 8. -/
  free       : Nat
  deriving DecidableEq, Repr

/-- 10_state.md R23 for a block with parameters `cfg`. OUT[0] and OUT[1] are unknown: two free values (log 8). -/
def State.resetWith (cfg : Params) : State where
  cfg        := cfg
  fail       := false
  err        := { kind := .none, text := [] }
  addr       := cfg.addrDefault
  path       := cfg.pathDefault
  seq        := .idle
  latches    := Latches.empty
  port0      := { out := Config.freePins 0, dir := .unknown }
  port1      := { out := Config.freePins 1, dir := .unknown }
  busLost    := true
  adapterErr := []
  answers    := []
  elapsed    := 0
  requests   := []
  rst        := false
  trace      := []
  responses  := []
  free       := 2

/-- The block right after reset (10_state.md R23, 70_reset_and_hazards.md R150, R151), with R5's default parameters. -/
def State.reset : State := State.resetWith Config.default

/-- The reasons a step can stop with a fault: none. The spec's failures are values after which the block goes on
(60_exceptions.md R136, R137), and an adapter that never answers leaves it in RUN (R141). Nothing raises one: safe. -/
inductive Fault
  deriving DecidableEq, Repr

/-- The reasons a step can be refused. -/
inductive Refusal where
  /-- Raised by an arm of `exec` whose instruction has no meaning yet: safe. No arm raises it. -/
  | notModelled (mnemonic : String)
  deriving DecidableEq, Repr

end Sys2Proof.Machine
end

