-- ==== Sys2Proof/Machine/Flags.lean ====
section
/-! DEFINITION. The one status flag and the error record (10_state.md R15, R16): who writes them and who reads them. -/

namespace Sys2Proof.Machine

/-- FAIL <- 1 and ERR <- (kind, msg), together (60_exceptions.md R136). Nothing clears FAIL but reset (R15). -/
def State.recordFailure (kind : FailureKind) (msg : List Byte) (s : State) : State :=
  { s with fail := true, err := { kind := kind, text := msg } }

/-- What FAILED reads (43_status_config.md R121). -/
def State.readFail (s : State) : Bool := s.fail

/-- What GETERR reads (43_status_config.md R120). -/
def State.readErr (s : State) : ErrRecord := s.err

end Sys2Proof.Machine
end

