-- ==== Sys2Proof/Machine/Operands.lean ====
section
/-! DEFINITION. Operand computations: the line of a cursor position, the composed command bytes (00_scope.md R6), the
8-bit addition (41_command_layer.md R99), the numbers of kinds and codes. -/

namespace Sys2Proof.Machine

/-- The line a number names; none outside {1,2,3,4} (41_command_layer.md R97, R98). -/
def lineOf (n : Nat) : Option DisplayLine :=
  match n with
  | 1 => some .l1
  | 2 => some .l2
  | 3 => some .l3
  | 4 => some .l4
  | _ => none

/-- LINE_BASE[line] (30_encoding.md R67). -/
def lineBase (cfg : Params) (line : DisplayLine) : Byte :=
  match line with
  | .l1 => cfg.lineBase1
  | .l2 => cfg.lineBase2
  | .l3 => cfg.lineBase3
  | .l4 => cfg.lineBase4

/-- (LINE_BASE[line] + col) mod 256: an 8-bit adder whose carry out is dropped (41_command_layer.md R99). -/
def ddramAddress (cfg : Params) (line : DisplayLine) (col : Byte) : Byte :=
  lineBase cfg line + col

/-- DDRAM_BYTE(line, col): the addition first, then the OR (00_scope.md R6, 41_command_layer.md R97). -/
def ddramByte (cfg : Params) (line : DisplayLine) (col : Byte) : Byte :=
  cfg.cmdSetDdram ||| ddramAddress cfg line col

/-- `c ? v : 0` (00_scope.md R7). -/
def orBit (c : Bool) (v : Byte) : Byte :=
  if c then v else 0#8

/-- DISP_BYTE(cur, blk) (00_scope.md R6, 41_command_layer.md R95, R96). -/
def dispByte (cfg : Params) (cur blk : Bool) : Byte :=
  cfg.cmdDisplayControl ||| cfg.displayOn ||| orBit cur cfg.cursorOn ||| orBit blk cfg.blinkOn

/-- FSET_BYTE (00_scope.md R6). -/
def fsetByte (cfg : Params) : Byte :=
  cfg.cmdFunctionSet ||| cfg.function8Bit ||| cfg.function2Line ||| cfg.function5x7

/-- ENTRY_BYTE (00_scope.md R6). -/
def entryByte (cfg : Params) : Byte :=
  cfg.cmdEntryMode ||| cfg.entryIncrement ||| cfg.entryNoShift

/-- The addr operand as it is stored: the 8-bit field, unsigned (30_encoding.md R54, 43_status_config.md R122). -/
def addrOperand (addr : Byte) : Int := (addr.toNat : Int)

/-- The number in ERR.kind (60_exceptions.md R130). -/
def FailureKind.number : FailureKind → Nat
  | .none => 0
  | .transport => 1
  | .invalidLine => 2

/-- The number of a response code (30_encoding.md R62). -/
def RespCode.number : RespCode → Nat
  | .ok => 0
  | .fail => 1
  | .refused => 2

/-- T(c) in microseconds, a lower bound (70_reset_and_hazards.md R165, R166). -/
def delayUs (cfg : Params) (c : DelayClass) : Nat :=
  match c with
  | .en => cfg.tEnableUs
  | .data => cfg.tDataUs
  | .cmd => cfg.tCmdUs
  | .boot => 1000 * cfg.tBootMs
  | .fset => 1000 * cfg.tFsetMs
  | .clear => 1000 * cfg.tClearMs
  | .home => 1000 * cfg.tHomeMs

end Sys2Proof.Machine
end

