-- ==== Sys2Proof/Machine/Framer.lean ====
section
/-! DEFINITION. The transport framer (40_framer.md): the control-bit encoder and the enable-strobe sequence. -/

namespace Sys2Proof.Machine

/-- control_bit_encoder (40_framer.md R80): a pure function of the three bits. -/
def ctrl (cfg : Params) (rs rw en : Bool) : Byte :=
  orBit rs cfg.rsMask ||| orBit rw cfg.rwMask ||| orBit en cfg.enMask

/-- strobe(c, d) (40_framer.md R82): four port writes and one wait. The enable bit is added here, not by the caller. -/
def strobe (cfg : Params) (c d : Byte) : List MicroOp :=
  [ .wr dataPort d,
    .wr ctrlPort c,
    .wr ctrlPort (c ||| cfg.enMask),
    .wait .en,
    .wr ctrlPort c ]

/-- The (c, d) of the strobe a list of micro-operations begins with, if it begins with one: what the latches CTRL and
DATA take when that strobe starts (10_state.md R11, 40_framer.md R82). Log 14. -/
def strobeAt (cfg : Params) (ops : List MicroOp) : Option (Byte × Byte) :=
  match ops with
  | .wr .p0 d :: .wr .p1 c :: _ => if (strobe cfg c d).isPrefixOf ops then some (c, d) else none
  | _ => none

end Sys2Proof.Machine
end

