-- ==== Sys2Proof/Machine/Ops.lean ====
section
/-! DEFINITION. The named operations every meaning is built from: the ports, the trace and the responses, the failure
entry, the run loop, acceptance of a request, reset, and the inputs. -/

namespace Sys2Proof.Machine

/-! ## Ports (20_memory.md R33, R34; 10_state.md R20, R21) -/

/-- OUT[p] and DIR[p]. -/
def State.port (p : Port) (s : State) : PortState :=
  match p with
  | .p0 => s.port0
  | .p1 => s.port1

def State.setPort (p : Port) (v : PortState) (s : State) : State :=
  match p with
  | .p0 => { s with port0 := v }
  | .p1 => { s with port1 := v }

/-- OUT[p] <- v (R20, R33). -/
def State.setOut (p : Port) (v : Byte) (s : State) : State :=
  s.setPort p { s.port p with out := v }

/-- DIR[p] <- OUTPUT (R20, R34). -/
def State.setOutput (p : Port) (s : State) : State :=
  s.setPort p { s.port p with dir := .output }

/-- OUT[p] becomes any value (10_state.md R21 (c), 93 U1, U8): the next free value. Log 8. -/
def State.loseOut (p : Port) (s : State) : State :=
  { s.setOut p (Config.freePins s.free) with free := s.free + 1 }

/-- The ports the block now reaches are in "whatever direction and value they were" (43_status_config.md R122,
93 U7), or unknown after reset (10_state.md R23); the bus is not known (70_reset_and_hazards.md R153.3).
Logs 8, 11, 21, 28. -/
def State.forgetPorts (s : State) : State :=
  { s with
    port0 := { out := Config.freePins s.free, dir := .unknown }
    port1 := { out := Config.freePins (s.free + 1), dir := .unknown }
    busLost := true
    free := s.free + 2 }

/-! ## Trace, responses, failure entry -/

/-- Append a performed micro-operation to the trace (00_scope.md R7). -/
def State.logEvent (m : MicroOp) (a : Answer) (s : State) : State :=
  { s with trace := s.trace ++ [{ op := m, answer := a, addr := s.addr, path := s.path }] }

/-- Give the one response of a request (30_encoding.md R62). -/
def State.respond (code : RespCode) (value : RespValue) (s : State) : State :=
  { s with responses := s.responses ++ [{ code := code, value := value }] }

/-- SEQ <- IDLE; the latches lose their values (10_state.md R11, R14). -/
def State.toIdle (s : State) : State :=
  { s with seq := .idle, latches := Latches.empty }

/-- The end of an operation that met no failure (10_state.md R14): SEQ <- IDLE; response OK. -/
def State.complete (value : RespValue) (s : State) : State :=
  s.toIdle.respond .ok value

/-- `raise Failure(kind, msg)`, the block's exception entry (60_exceptions.md R136): FAIL <- 1, ERR <- (kind, msg),
SEQ <- IDLE, response FAIL. The return beside it: there is none, "nothing to restore" (R137). -/
def State.raiseFailure (kind : FailureKind) (msg : List Byte) (s : State) : State :=
  ((s.recordFailure kind msg).toIdle).respond .fail .none

/-- The adapter's `lastError()` (60_exceptions.md R142): "the failure entry, to fetch msg". -/
def State.lastError (s : State) : List Byte := s.adapterErr

/-! ## Micro-operations (10_state.md R13) -/

/-- What came of performing one micro-operation. -/
inductive Performed where
  /-- It answered ok (a WAIT that has run out always does). -/
  | done (s : State)
  /-- The adapter answered fail; its message is `lastError`. -/
  | failed (s : State)
  /-- The adapter has not answered yet, or the time of a WAIT has not run out yet. -/
  | pending
  deriving DecidableEq, Repr

/-- PortMode(p, OUTPUT) (20_memory.md R34). On ok: DIR[p] <- OUTPUT, and what the pins take at that moment is any value
(93 U8); what follows in INIT puts the bus in a known state or loses it (log 28). On fail: OUT[p] is any value
(10_state.md R21 (c)), DIR[p] as it was (42_init.md R112, log 9), and the bus is lost (70_reset_and_hazards.md R161). -/
def portMode (p : Port) (s : State) : Performed :=
  match s.answers with
  | [] => .pending
  | .ok :: as =>
    .done (({ s with answers := as, busLost := false }.setOutput p).loseOut p |>.logEvent (.mode p) .ok)
  | .fail msg :: as =>
    .failed ({ s with answers := as, adapterErr := msg, busLost := true }.loseOut p |>.logEvent (.mode p) (.fail msg))

/-- PortWrite(p, v) (20_memory.md R33). On ok: OUT[p] <- v, whatever DIR[p] is: OUT is the value the expander holds for
the port, and nothing is said of the pins while DIR[p] is UNKNOWN (93 U4, log 26). On fail: OUT[p] is any value
(10_state.md R21 (c)), the other port is unchanged, and the bus is lost until INIT (70_reset_and_hazards.md R161,
log 28). -/
def portWrite (p : Port) (v : Byte) (s : State) : Performed :=
  match s.answers with
  | [] => .pending
  | .ok :: as =>
    .done ({ s with answers := as }.setOut p v |>.logEvent (.wr p v) .ok)
  | .fail msg :: as =>
    .failed ({ s with answers := as, adapterErr := msg, busLost := true }.loseOut p |>.logEvent (.wr p v) (.fail msg))

/-- Wait(T(c)): no effect but the passing of at least T(c) (70_reset_and_hazards.md R165, R168). It cannot fail; the
block stays at it until the timer has run out (60_exceptions.md R143, log 15). -/
def delay (c : DelayClass) (s : State) : Performed :=
  match s.elapsed with
  | 0 => .pending
  | n + 1 => .done ({ s with elapsed := n }.logEvent (.wait c) .ok)

def perform (m : MicroOp) (s : State) : Performed :=
  match m with
  | .mode p => portMode p s
  | .wr p v => portWrite p v s
  | .wait c => delay c s

/-! ## The run loop (10_state.md R14) -/

/-- Where a strobe starts, the latches CTRL and DATA take its operands (10_state.md R11). Log 14. -/
def Latches.atStrobe (cfg : Params) (rest : List MicroOp) (l : Latches) : Latches :=
  match strobeAt cfg rest with
  | some (c, d) => { l with ctrl := some c, data := some d }
  | none => l

/-- SEQ <- RUN(ops, i), `rest` being what is left of `ops` from `i` on. -/
def State.atPosition (ops : List MicroOp) (i : Nat) (rest : List MicroOp) (s : State) : State :=
  { s with seq := .run ops i, latches := s.latches.atStrobe s.cfg rest }

/-- R14 from position `i` on, `rest` being `ops` from `i` on: perform each micro-operation in order; the first fail
raises the transport failure and drops the rest; the end answers OK; a call the adapter has not answered, or a WAIT that
has not run out, leaves the block in RUN(ops, i) (10_state.md R12, 60_exceptions.md R141). Log 1. -/
def runFrom (ops : List MicroOp) : Nat → List MicroOp → State → State
  | _, [], s => s.complete .none
  | i, m :: rest, s =>
    match perform m (s.atPosition ops i (m :: rest)) with
    | .done s' => runFrom ops (i + 1) rest s'
    | .failed s' => s'.raiseFailure .transport s'.lastError
    | .pending => s.atPosition ops i (m :: rest)

/-- An accepted operation: its operands go to the latches, its expansion is fixed and run from the start (R14). -/
def runOperation (ops : List MicroOp) (operands : Latches) (s : State) : State :=
  runFrom ops 0 ops { s with latches := operands }

/-- Go on with the operation in progress from the micro-operation it waits at. -/
def State.resume (ops : List MicroOp) (i : Nat) (s : State) : State :=
  runFrom ops i (ops.drop i) s

/-! ## The request interface (30_encoding.md R50, R59, R62) -/

/-- What stands at the request interface. -/
def State.fetch (s : State) : Decoded := decodeRequest s.requests

/-- The words of an accepted request are consumed once, at acceptance (R58). -/
def State.acceptRequest (rest : List Word) (s : State) : State :=
  { s with requests := rest }

/-- An illegal request: consumed, answered REFUSED, "no micro-operation, and changes no state" (R59). -/
def State.refuseRequest (rest : List Word) (s : State) : State :=
  (s.acceptRequest rest).respond .refused .none

/-! ## ADDR and PATH (10_state.md R17, R18) -/

/-- Store a new endpoint. Where it differs from the one in force, every later call goes elsewhere
(70_reset_and_hazards.md R164) and the ports there are any value (93 U7). Log 11. -/
def State.setEndpoint (addr : Int) (path : List Byte) (s : State) : State :=
  if addr = s.addr ∧ path = s.path then s
  else { s.forgetPorts with addr := addr, path := path }

/-! ## Reset (70_reset_and_hazards.md R150) -/

/-- What a micro-operation that is dropped while in progress leaves: OUT of the port it was addressed to is any value,
"as a failure at that point" (R150, 10_state.md R21, 93 U15); a WAIT touches no port. -/
def State.dropInFlight (m : MicroOp) (s : State) : State :=
  match m with
  | .mode p => s.loseOut p
  | .wr p _ => s.loseOut p
  | .wait _ => s

/-- OUT and DIR at a reset. In IDLE: unknown (10_state.md R23). In RUN(ops, i): as a failure at ops[i] leaves them
(R150, 93 U15), unless the reset values of ADDR and PATH lead to another expander (log 11). Log 21. -/
def State.resetPorts (s : State) : State :=
  match s.seq with
  | .idle => s.forgetPorts
  | .run ops i =>
    if s.addr = s.cfg.addrDefault ∧ s.path = s.cfg.pathDefault then
      match ops[i]? with
      | some m => s.dropInFlight m
      | none => s
    else s.forgetPorts

/-- The reset event: every piece of the block's state takes R23's value, an operation in progress is dropped without a
response, no micro-operation is issued, and until INIT the bus is not known (R153.3, log 28). The requester's words, the
adapter's answers, the time that has run out and what has been observed so far are not the block's and stay (log 4). -/
def State.resetEvent (s : State) : State :=
  { s.resetPorts with
    fail := false
    err := { kind := .none, text := [] }
    addr := s.cfg.addrDefault
    path := s.cfg.pathDefault
    seq := .idle
    latches := Latches.empty
    busLost := true
    rst := false }

/-! ## Inputs: what the outside world may do between two steps -/

/-- The requester presents words (30_encoding.md R50). -/
def State.offerWords (ws : List Word) (s : State) : State :=
  { s with requests := s.requests ++ ws }

/-- The adapter answers (60_exceptions.md R142). -/
def State.offerAnswers (as : List Answer) (s : State) : State :=
  { s with answers := s.answers ++ as }

/-- The times of `n` more WAITs run out (70_reset_and_hazards.md R165, R168: every wait ends, none is cut short). -/
def State.offerElapsed (n : Nat) (s : State) : State :=
  { s with elapsed := s.elapsed + n }

/-- Reset is asserted (70_reset_and_hazards.md R150). -/
def State.assertReset (s : State) : State :=
  { s with rst := true }

/-- The requester's next words are `ws` and the block is ready to take them: IDLE, reset not asserted. Log 20. -/
def State.presentFirst (ws : List Word) (s : State) : State :=
  { s.toIdle with requests := ws ++ s.requests, rst := false }

end Sys2Proof.Machine
end

