-- ==== Sys2Proof/Machine/CommandLayer.lean ====
section
/-! DEFINITION. The command layer (41_command_layer.md): the expansions of WRDAT, WRCMD, CLEAR, HOME, SETDISP, SETCUR
and WRSTR, and their meanings. -/

namespace Sys2Proof.Machine

/-- WRDAT(b) (R91). -/
def wrdatOps (cfg : Params) (b : Byte) : List MicroOp :=
  strobe cfg (ctrl cfg true false false) b ++ [.wait .data]

/-- WRCMD(b) (R92). -/
def wrcmdOps (cfg : Params) (b : Byte) : List MicroOp :=
  strobe cfg (ctrl cfg false false false) b ++ [.wait .cmd]

/-- CLEAR (R93); both waits stand, R104. -/
def clearOps (cfg : Params) : List MicroOp :=
  wrcmdOps cfg cfg.cmdClearDisplay ++ [.wait .clear]

/-- HOME (R94). -/
def homeOps (cfg : Params) : List MicroOp :=
  wrcmdOps cfg cfg.cmdCursorHome ++ [.wait .home]

/-- SETDISP(cur, blk) (R95). -/
def setdispOps (cfg : Params) (cur blk : Bool) : List MicroOp :=
  wrcmdOps cfg (dispByte cfg cur blk)

/-- SETCUR(line, col) for a valid line (R97). -/
def setcurOps (cfg : Params) (line : DisplayLine) (col : Byte) : List MicroOp :=
  wrcmdOps cfg (ddramByte cfg line col)

/-- WRSTR(text): WRDAT of each byte, first byte first (R101). -/
def wrstrOps (cfg : Params) (text : List Byte) : List MicroOp :=
  text.flatMap (wrdatOps cfg)

def execWrdat (b : Byte) (s : State) : Host.Outcome State Fault Refusal :=
  .next (runOperation (wrdatOps s.cfg b) Latches.empty s)

def execWrcmd (b : Byte) (s : State) : Host.Outcome State Fault Refusal :=
  .next (runOperation (wrcmdOps s.cfg b) Latches.empty s)

def execClear (s : State) : Host.Outcome State Fault Refusal :=
  .next (runOperation (clearOps s.cfg) Latches.empty s)

def execHome (s : State) : Host.Outcome State Fault Refusal :=
  .next (runOperation (homeOps s.cfg) Latches.empty s)

/-- CUR and BLK hold the operands while it runs (10_state.md R11). -/
def execSetdisp (cur blk : Bool) (s : State) : Host.Outcome State Fault Refusal :=
  .next (runOperation (setdispOps s.cfg cur blk)
    { Latches.empty with cur := some cur, blk := some blk } s)

/-- R97 for a line in {1,2,3,4}, R98 for any other: the failure is raised before SEQ leaves IDLE, with no
micro-operation. LINE and COL hold the operands while it runs (10_state.md R11). -/
def execSetcur (line : BitVec 4) (col : Byte) (s : State) : Host.Outcome State Fault Refusal :=
  match lineOf line.toNat with
  | some l =>
    .next (runOperation (setcurOps s.cfg l col)
      { Latches.empty with line := some line, col := some col } s)
  | none => .next (s.raiseFailure .invalidLine s.cfg.msgInvalidLine)

/-- TEXT holds the operand while it runs (10_state.md R11). -/
def execWrstr (text : List Byte) (s : State) : Host.Outcome State Fault Refusal :=
  .next (runOperation (wrstrOps s.cfg text) { Latches.empty with text := some text } s)

end Sys2Proof.Machine
end

