-- ==== Sys2Proof/Machine/Init.lean ====
section
/-! DEFINITION. The power-on initialisation sequence (42_init.md). -/

namespace Sys2Proof.Machine

/-- One (setCursor, writeString) pair of step 9 (R110). -/
def bannerEntryOps (cfg : Params) (e : BannerEntry) : List MicroOp :=
  setcurOps cfg e.line e.col ++ wrstrOps cfg e.text

/-- Steps 1 to 3: both ports to output, both to 0, the boot wait; port 0 first (R111, 92 D9). -/
def initPortOps : List MicroOp :=
  [.mode .p0, .mode .p1, .wr .p0 0#8, .wr .p1 0#8, .wait .boot]

/-- Steps 4 to 8: function set and its wait, display attributes, clear, entry mode (R111). -/
def initCommandOps (cfg : Params) : List MicroOp :=
  wrcmdOps cfg (fsetByte cfg) ++ [.wait .fset] ++ setdispOps cfg false false ++ clearOps cfg ++
    wrcmdOps cfg (entryByte cfg)

/-- Step 9: the banner (R113). -/
def initBannerOps (cfg : Params) : List MicroOp :=
  bannerEntryOps cfg cfg.banner.b0 ++ bannerEntryOps cfg cfg.banner.b1 ++
    bannerEntryOps cfg cfg.banner.b2 ++ bannerEntryOps cfg cfg.banner.b3

/-- INIT (R110). -/
def initOps (cfg : Params) : List MicroOp :=
  initPortOps ++ initCommandOps cfg ++ initBannerOps cfg

def execInit (s : State) : Host.Outcome State Fault Refusal :=
  .next (runOperation (initOps s.cfg) Latches.empty s)

end Sys2Proof.Machine
end

