-- ==== Sys2Proof/Machine/StatusConfig.lean ====
section
/-! DEFINITION. The status and configuration operations (43_status_config.md): no micro-operation, none can fail. -/

namespace Sys2Proof.Machine

/-- GETERR: respond (OK, ERR); writes nothing (R120). -/
def execGeterr (s : State) : Host.Outcome State Fault Refusal :=
  .next (s.complete (.err s.readErr))

/-- FAILED: respond (OK, FAIL); writes nothing (R121). -/
def execFailed (s : State) : Host.Outcome State Fault Refusal :=
  .next (s.complete (.flag s.readFail))

/-- SETADDR: ADDR <- addr; respond OK; not validated (R122). -/
def execSetaddr (addr : Byte) (s : State) : Host.Outcome State Fault Refusal :=
  .next ((s.setEndpoint (addrOperand addr) s.path).complete .none)

/-- SETPATH: PATH <- path; respond OK; not validated (R123). -/
def execSetpath (path : List Byte) (s : State) : Host.Outcome State Fault Refusal :=
  .next ((s.setEndpoint s.addr path).complete .none)

end Sys2Proof.Machine
end

