-- ==== Sys2Proof/Machine/Dispatch.lean ====
section
/-! DEFINITION. One arm per operation (00_scope.md R4). -/

namespace Sys2Proof.Machine

def exec (i : Instr) (s : State) : Host.Outcome State Fault Refusal :=
  match i with
  | .init => Sys2Proof.Machine.execInit s
  | .clear => Sys2Proof.Machine.execClear s
  | .home => Sys2Proof.Machine.execHome s
  | .setdisp cur blk => Sys2Proof.Machine.execSetdisp cur blk s
  | .setcur line col => Sys2Proof.Machine.execSetcur line col s
  | .wrstr text => Sys2Proof.Machine.execWrstr text s
  | .wrcmd b => Sys2Proof.Machine.execWrcmd b s
  | .wrdat b => Sys2Proof.Machine.execWrdat b s
  | .geterr => Sys2Proof.Machine.execGeterr s
  | .failed => Sys2Proof.Machine.execFailed s
  | .setaddr addr => Sys2Proof.Machine.execSetaddr addr s
  | .setpath path => Sys2Proof.Machine.execSetpath path s

end Sys2Proof.Machine
end

