-- ==== Sys2Proof/Machine/Step.lean ====
section
/-! DEFINITION. One step of the machine. -/

namespace Sys2Proof.Machine

/-- One step. Reset, where asserted, comes first (70_reset_and_hazards.md R150). In RUN the operation in progress goes
on, and no request is taken (60_exceptions.md R140). In IDLE the block waits for a whole request (30_encoding.md R50,
70_reset_and_hazards.md R151), refuses an illegal one (30_encoding.md R59) and runs a legal one (log 1). -/
def step (s : State) : Host.Outcome State Fault Refusal :=
  if s.rst then .next s.resetEvent
  else
    match s.seq with
    | .run ops i => .next (s.resume ops i)
    | .idle =>
      match s.fetch with
      | .incomplete => .next s
      | .illegal _ rest => .next (s.refuseRequest rest)
      | .legal i rest => exec i (s.acceptRequest rest)

/-- `s` with the request of a table row's word first at the request interface, the block ready to take it (log 20). -/
def State.withFetchWord (s : State) (nbits w : Nat) : State :=
  s.presentFirst (tableWords nbits w)

end Sys2Proof.Machine
end

