-- ==== Sys2Proof/Safety.lean ====
section
/-! DEFINITION. The words statements are written in: what an operation's micro-operation list amounts to, what a trace
shows, and the invariant of the machine. -/

namespace Sys2Proof.Machine

/-! ## Micro-operation lists -/

/-- `MODE` and `WR` ask the adapter; a `WAIT` does not (10_state.md R13). -/
def MicroOp.isPort : MicroOp → Bool
  | .mode _ => true
  | .wr _ _ => true
  | .wait _ => false

/-- How many adapter answers a list uses when it runs to its end. -/
def portCount : List MicroOp → Nat
  | [] => 0
  | .mode _ :: r => portCount r + 1
  | .wr _ _ :: r => portCount r + 1
  | .wait _ :: r => portCount r

/-- How many `MODE` a list holds. -/
def modeCount : List MicroOp → Nat
  | [] => 0
  | .mode _ :: r => modeCount r + 1
  | .wr _ _ :: r => modeCount r
  | .wait _ :: r => modeCount r

/-- How many `WR` a list holds. -/
def writeCount : List MicroOp → Nat
  | [] => 0
  | .mode _ :: r => writeCount r
  | .wr _ _ :: r => writeCount r + 1
  | .wait _ :: r => writeCount r

/-- How many `WAIT` a list holds. -/
def waitCount : List MicroOp → Nat
  | [] => 0
  | .mode _ :: r => waitCount r
  | .wr _ _ :: r => waitCount r
  | .wait _ :: r => waitCount r + 1

/-- The inputs of `s` let every micro-operation of `pre` end well (each call answered ok, each WAIT run out), and leave
the answers `as` and `w` more elapsed WAITs for what comes after. -/
def endsWell (s : State) (pre : List MicroOp) (as : List Answer) (w : Nat) : Prop :=
  s.answers = List.replicate (portCount pre) .ok ++ as ∧ s.elapsed = waitCount pre + w

/-- `m` cannot end with the inputs left: a call with no answer, a WAIT whose time has not run out. -/
def cannotEnd (m : MicroOp) (as : List Answer) (w : Nat) : Prop :=
  (m.isPort = true ∧ as = []) ∨ (m.isPort = false ∧ w = 0)

/-- OUT[p] once every `WR` of a list has answered ok, if it was `v` before (10_state.md R20). -/
def lastWrite (p : Port) : List MicroOp → Byte → Byte
  | [], v => v
  | .mode _ :: r, v => lastWrite p r v
  | .wr q w :: r, v => lastWrite p r (if q = p then w else v)
  | .wait _ :: r, v => lastWrite p r v

/-- The least time a list keeps the block busy: the sum of its waits (70_reset_and_hazards.md R167). -/
def leastTimeUs (cfg : Params) : List MicroOp → Nat
  | [] => 0
  | .mode _ :: r => leastTimeUs cfg r
  | .wr _ _ :: r => leastTimeUs cfg r
  | .wait c :: r => delayUs cfg c + leastTimeUs cfg r

/-- The trace entries of a list every one of whose micro-operations was performed with answer ok, under the ADDR and
PATH of `s`. -/
def okEvents (s : State) (ops : List MicroOp) : List Event :=
  ops.map fun m => { op := m, answer := .ok, addr := s.addr, path := s.path }

/-- The micro-operations an operation expands to (41_command_layer.md, 42_init.md); none for the status and
configuration operations and for SETCUR with an invalid line (R98). -/
def expansion (cfg : Params) : Instr → List MicroOp
  | .init => initOps cfg
  | .clear => clearOps cfg
  | .home => homeOps cfg
  | .setdisp cur blk => setdispOps cfg cur blk
  | .setcur line col =>
    match lineOf line.toNat with
    | some l => setcurOps cfg l col
    | none => []
  | .wrstr text => wrstrOps cfg text
  | .wrcmd b => wrcmdOps cfg b
  | .wrdat b => wrdatOps cfg b
  | .geterr => []
  | .failed => []
  | .setaddr _ => []
  | .setpath _ => []

/-- The operand latches while an operation runs, before its first strobe (10_state.md R11). -/
def operandLatches : Instr → Latches
  | .init => Latches.empty
  | .clear => Latches.empty
  | .home => Latches.empty
  | .setdisp cur blk => { Latches.empty with cur := some cur, blk := some blk }
  | .setcur line col => { Latches.empty with line := some line, col := some col }
  | .wrstr text => { Latches.empty with text := some text }
  | .wrcmd _ => Latches.empty
  | .wrdat _ => Latches.empty
  | .geterr => Latches.empty
  | .failed => Latches.empty
  | .setaddr _ => Latches.empty
  | .setpath path => { Latches.empty with text := some path }

/-- The value of the response an operation gives when it meets no failure (30_encoding.md R62). -/
def okValue (s : State) : Instr → RespValue
  | .init => .none
  | .clear => .none
  | .home => .none
  | .setdisp _ _ => .none
  | .setcur _ _ => .none
  | .wrstr _ => .none
  | .wrcmd _ => .none
  | .wrdat _ => .none
  | .geterr => .err s.err
  | .failed => .flag s.fail
  | .setaddr _ => .none
  | .setpath _ => .none

/-- SETCUR with a line outside {1,2,3,4}: the one operation that cannot succeed (10_state.md R25). -/
def invalidLineRequest : Instr → Bool
  | .setcur line _ => (lineOf line.toNat).isNone
  | .init => false
  | .clear => false
  | .home => false
  | .setdisp _ _ => false
  | .wrstr _ => false
  | .wrcmd _ => false
  | .wrdat _ => false
  | .geterr => false
  | .failed => false
  | .setaddr _ => false
  | .setpath _ => false

/-- One command write as the pins see it: the byte, RS low, one enable pulse, the command settle (R92, R66). -/
def commandWrite (cfg : Params) (b : Byte) : List MicroOp :=
  [.wr .p0 b, .wr .p1 0#8, .wr .p1 cfg.enMask, .wait .en, .wr .p1 0#8, .wait .cmd]

/-- One data write as the pins see it: the byte, RS high, one enable pulse, the data settle (R91, R68). -/
def dataWrite (cfg : Params) (b : Byte) : List MicroOp :=
  [.wr .p0 b, .wr .p1 cfg.rsMask, .wr .p1 (cfg.rsMask ||| cfg.enMask), .wait .en, .wr .p1 cfg.rsMask,
    .wait .data]

/-- The state after a completed operation that was one write of the command byte `b` and then the waits `extra`:
everything else is as in `s`. -/
def commandDone (s : State) (as : List Answer) (w : Nat) (b : Byte) (extra : List MicroOp) : State :=
  { s with
    seq := .idle
    latches := Latches.empty
    answers := as
    elapsed := w
    port0 := { s.port0 with out := b }
    port1 := { s.port1 with out := 0#8 }
    trace := s.trace ++ okEvents s (commandWrite s.cfg b ++ extra)
    responses := s.responses ++ [{ code := .ok, value := .none }] }

/-- The total banner length L (42_init.md R115). -/
def bannerLength (cfg : Params) : Nat :=
  cfg.banner.b0.text.length + cfg.banner.b1.text.length + cfg.banner.b2.text.length +
    cfg.banner.b3.text.length

/-- Does a micro-operation call the adapter for port `p`? -/
def MicroOp.targets (p : Port) : MicroOp → Bool
  | .mode q => q == p
  | .wr q _ => q == p
  | .wait _ => false

/-- The four operations that "touch only the block's own registers" (43_status_config.md). -/
def registersOnly : Instr → Bool
  | .init => false
  | .clear => false
  | .home => false
  | .setdisp _ _ => false
  | .setcur _ _ => false
  | .wrstr _ => false
  | .wrcmd _ => false
  | .wrdat _ => false
  | .geterr => true
  | .failed => true
  | .setaddr _ => true
  | .setpath _ => true

/-! ## The pulse on the pins (40_framer.md R83) -/

/-- Is EN high in a byte of port 1? -/
def enHigh (cfg : Params) (v : Byte) : Bool := v &&& cfg.enMask != 0#8

/-- The enable pulse keeps its shape along a list, port 1 holding `o1` before it: port 0 is written only while EN is
low; a write to port 1 with EN high before or after it changes nothing but EN; a rising EN is followed at once by
`WAIT EN`; no port is set to output; EN is low at the end. -/
def pulseShape (cfg : Params) (o1 : Byte) : List MicroOp → Bool
  | [] => !enHigh cfg o1
  | .mode _ :: _ => false
  | .wr .p0 _ :: r => !enHigh cfg o1 && pulseShape cfg o1 r
  | .wr .p1 v :: r =>
    ((!enHigh cfg v && !enHigh cfg o1) || v &&& ~~~cfg.enMask == o1 &&& ~~~cfg.enMask) &&
    (!enHigh cfg v || enHigh cfg o1 || r.head? == some (.wait .en)) &&
    pulseShape cfg v r
  | .wait _ :: r => pulseShape cfg o1 r

/-! ## What the display is presented with (40_framer.md R85) -/

/-- One write transaction to the LCD controller. -/
structure Transaction where
  rs   : Bool
  data : Byte
  deriving DecidableEq, Repr

/-- The transaction that a completed strobe at the head of a trace presents: its five micro-operations all answered
ok. -/
def headTransaction (cfg : Params) (events : List Event) : Option Transaction :=
  if (events.take 5).all fun e => e.answer == .ok then
    (strobeAt cfg (events.map Event.op)).map fun cd =>
      { rs := cd.1 &&& cfg.rsMask != 0#8, data := cd.2 }
  else none

/-- What is known of a port's pins: the value, where one is known, and the direction. -/
structure Pins where
  out : Option Byte
  dir : Dir
  deriving DecidableEq, Repr

/-- The pins of a port as the state holds them. -/
def PortState.pins (p : PortState) : Pins := { out := some p.out, dir := p.dir }

/-- What is known of port `q`'s pins after a micro-operation that answered ok: `WR` sets the value, `MODE` makes an
output whose value is not known (93 U8). -/
def Pins.after (q : Port) (p : Pins) : MicroOp → Pins
  | .mode r => if r = q then { out := none, dir := .output } else p
  | .wr r v => if r = q then { p with out := some v } else p
  | .wait _ => p

/-- What is known of the bus: whether it is lost (the ghost `busLost`), and the pins of both ports. -/
structure Bus where
  lost : Bool
  p0   : Pins
  p1   : Pins
  deriving DecidableEq, Repr

/-- The bus as the state holds it. -/
def State.bus (s : State) : Bus := { lost := s.busLost, p0 := s.port0.pins, p1 := s.port1.pins }

/-- What is known of the bus after a micro-operation that answered ok. A bus that is lost stays so until a `MODE`, that
is until INIT (60_exceptions.md R137, 70_reset_and_hazards.md R161). -/
def Bus.after (b : Bus) (m : MicroOp) : Bus :=
  { lost := match m with
      | .mode _ => false
      | .wr _ _ => b.lost
      | .wait _ => b.lost
    p0 := b.p0.after .p0 m
    p1 := b.p1.after .p1 m }

/-- A strobe that starts here reaches the display as one transaction: no strobe has failed since INIT
(70_reset_and_hazards.md R161), both ports are outputs (R153.3, 93 U4) and EN is low (40_framer.md R83). -/
def strobeReaches (cfg : Params) (b : Bus) : Bool :=
  !b.lost && b.p0.dir == .output && b.p1.dir == .output && b.p1.out.any fun v => !enHigh cfg v

/-- The transactions the display is known to have been presented with by the events of one operation, in order, `b`
being what was known of the bus before them: those of the completed strobes that reach it. From the first failed
micro-operation on nothing is claimed (R85, R161), here of the rest of the operation, and by `Bus.lost` of the
operations after it. -/
def delivered (cfg : Params) (b : Bus) : List Event → List Transaction
  | [] => []
  | e :: r =>
    match e.answer with
    | .fail _ => []
    | .ok =>
      (if strobeReaches cfg b then (headTransaction cfg (e :: r)).toList else []) ++ delivered cfg (b.after e.op) r

/-- A bus that is not lost can be used: both ports are outputs and EN is low. -/
def busReady (s : State) : Prop :=
  s.busLost = false → s.port0.dir = .output ∧ s.port1.dir = .output ∧ enHigh s.cfg s.port1.out = false

/-! ## The adapter (60_exceptions.md R142) -/

/-- "differs from every message the adapter can return" (00_scope.md R5, MSG_INVALID_LINE). -/
def messagesDistinct (s : State) : Prop :=
  Answer.fail s.cfg.msgInvalidLine ∉ s.answers

/-! ## The invariant -/

/-- The bytes the block can write to port 1 (30_encoding.md R65). -/
def ctrlWords (cfg : Params) : List Byte :=
  [0#8, cfg.enMask, cfg.rsMask, cfg.rsMask ||| cfg.enMask]

/-- A micro-operation the block may issue: a byte for port 1 is one of the four control words. -/
def MicroOp.lawful (cfg : Params) : MicroOp → Bool
  | .mode _ => true
  | .wr .p0 _ => true
  | .wr .p1 v => (ctrlWords cfg).contains v
  | .wait _ => true

/-- FAIL and ERR agree: FAIL is set exactly when ERR holds a failure (43_status_config.md R121), the reset record is
empty (10_state.md R23), and an invalid-line failure carries the fixed message (60_exceptions.md R130). -/
def errInv (s : State) : Prop :=
  (s.fail = true ↔ s.err.kind ≠ .none) ∧
  (s.err.kind = .none → s.err.text = []) ∧
  (s.err.kind = .invalidLine → s.err.text = s.cfg.msgInvalidLine)

/-- SEQ and the latches agree: in IDLE no latch has a value (10_state.md R11), in RUN(ops, i) the position is within
the list, 0 ≤ i < len(ops) (R12), at a port call or a WAIT, and every micro-operation of the list is lawful. -/
def seqInv (s : State) : Prop :=
  match s.seq with
  | .idle => s.latches = Latches.empty
  | .run ops i => i < ops.length ∧ ∀ m ∈ ops, m.lawful s.cfg = true

/-- Everything ever performed was lawful, and a WAIT never failed (10_state.md R13, R14). -/
def traceInv (s : State) : Prop :=
  ∀ e ∈ s.trace, e.op.lawful s.cfg = true ∧ (e.op.isPort = false → e.answer = .ok)

/-- The invariant every step and every input keeps. -/
def Inv (s : State) : Prop := errInv s ∧ seqInv s ∧ traceInv s

/-- The states the machine can come to from `s₀`: by its own steps, and by the inputs of the outside world between
them. -/
inductive Reachable (s₀ : State) : State → Prop where
  | start : Reachable s₀ s₀
  | step {s t : State} : Reachable s₀ s → step s = .next t → Reachable s₀ t
  | words {s : State} (ws : List Word) : Reachable s₀ s → Reachable s₀ (s.offerWords ws)
  | answers {s : State} (as : List Answer) : Reachable s₀ s → Reachable s₀ (s.offerAnswers as)
  | elapsed {s : State} (n : Nat) : Reachable s₀ s → Reachable s₀ (s.offerElapsed n)
  | reset {s : State} : Reachable s₀ s → Reachable s₀ s.assertReset

end Sys2Proof.Machine
end

