-- ==== Sys2Proof/Certificates/Slice0/Obligations.lean ====
section
/-! DEFINITION. The statements about the block, for the provers. Each formalises rules of spec/; none is proved here. -/

open Sys2Proof Sys2Proof.Machine

/-! ## Request words (30_encoding.md) -/

/-- R51 to R53, R63: no bit of an operation is lost on the request interface. -/
def Obligations.DecodeOfEncodeGivesTheOperation : Prop :=
  ∀ (i : Instr) (rest : List Word), i.wf = true → decodeRequest (encode i ++ rest) = .legal i rest

/-- R51 to R53, R59: a legal request is the encoding of the operation it decodes to, and of nothing else. -/
def Obligations.LegalRequestIsTheEncodingOfItsOperation : Prop :=
  ∀ (ws rest : List Word) (i : Instr),
    decodeRequest ws = .legal i rest → i.wf = true ∧ ws = encode i ++ rest

/-- R53: a header selects the row whose (w & mask) = match, at most one row matches, and a header that matches no row
is illegal. -/
def Obligations.HeaderSelectsItsOneRow : Prop :=
  (∀ (w : Word) (ws rest : List Word) (i : Instr),
    decodeRequest (w :: ws) = .legal i rest → w &&& rowMask i = rowMatch i) ∧
  (∀ (w : Word) (i j : Instr), w &&& rowMask i = rowMatch i → w &&& rowMask j = rowMatch j →
    rowMatch i = rowMatch j) ∧
  (∀ (w : Word) (ws : List Word), (∀ i : Instr, w &&& rowMask i ≠ rowMatch i) →
    decodeRequest (w :: ws) = .illegal .reservedOpcode ws ∨
    decodeRequest (w :: ws) = .illegal .mustBeZero ws) ∧
  (∀ (w : Word) (ws rest : List Word) (i : Instr) (why : Illegal), w &&& rowMask i = rowMatch i →
    decodeRequest (w :: ws) = .illegal why rest → why = .badPayload)

/-- R56: the header alone decides how many words a request has, 1 + len for WRSTR and SETPATH and 1 otherwise; a
request is taken or refused whole, and not before all of it is there. That a request of which words are missing is
waited for, a bad payload word in it or not, is the model's reading of R50 and R59 (c) (log 13). -/
def Obligations.HeaderAloneDecidesTheLength : Prop :=
  ∀ (w : Word) (ws : List Word),
    (payloadCount w = if opField w = 0x6#4 ∨ opField w = 0xC#4 then (lenField w).toNat else 0) ∧
    (ws.length < payloadCount w → decodeRequest (w :: ws) = .incomplete) ∧
    (payloadCount w ≤ ws.length →
      (∃ i, decodeRequest (w :: ws) = .legal i (ws.drop (payloadCount w))) ∨
      (∃ why, decodeRequest (w :: ws) = .illegal why (ws.drop (payloadCount w))))

/-- 95_test_vectors.md V1 to V20: words written out from R51 and R53. -/
def Obligations.SpecWordsDecodeAsTheSpecSays : Prop :=
  decodeRequest [0x1000#16] = .legal .init [] ∧
  decodeRequest [0x1001#16] = .illegal .mustBeZero [] ∧
  decodeRequest [0xE123#16] = .illegal .reservedOpcode [] ∧
  decodeRequest [0x4002#16] = .legal (.setdisp true false) [] ∧
  decodeRequest [0x5205#16] = .legal (.setcur 2#4 5#8) [] ∧
  decodeRequest [0x6002#16, 0x0048#16, 0x0069#16] = .legal (.wrstr [0x48#8, 0x69#8]) [] ∧
  decodeRequest [0x6001#16, 0x0141#16] = .illegal .badPayload [] ∧
  decodeRequest [0x70FF#16] = .legal (.wrcmd 0xFF#8) [] ∧
  decodeRequest [0x8041#16] = .legal (.wrdat 0x41#8) [] ∧
  decodeRequest [0xB021#16] = .legal (.setaddr 0x21#8) [] ∧
  decodeRequest [0xC000#16] = .legal (.setpath []) []

/-- R59: an illegal request, (a) by its op, (b) by a must-be-zero field, (c) by a payload word, is consumed whole,
answered REFUSED, and changes nothing else. -/
def Obligations.IllegalRequestIsRefusedWithoutEffect : Prop :=
  ∀ (s : State) (w : Word) (ws : List Word),
    s.rst = false → s.seq = .idle → s.requests = w :: ws →
    (opField w ∈ [0x0#4, 0xD#4, 0xE#4, 0xF#4] ∨
      (opField w ∈ [0x1#4, 0x2#4, 0x3#4, 0x9#4, 0xA#4] ∧ lenField w ≠ 0#12) ∨
      (opField w ∈ [0x7#4, 0x8#4, 0xB#4] ∧ lineField w ≠ 0#4) ∨
      (opField w = 0x4#4 ∧ flagsZeroField w ≠ 0#10) ∨
      (opField w ∈ [0x6#4, 0xC#4] ∧ (lenField w).toNat ≤ ws.length ∧
        ∃ p ∈ ws.take (lenField w).toNat, payloadHigh p ≠ 0#8)) →
    step s = .next
      { s with
        requests := ws.drop (payloadCount w)
        responses := s.responses ++ [{ code := .refused, value := .none }] }

/-! ## The step -/

/-- R50, R58: in IDLE, a whole legal request at the interface is consumed and run (in the same step: log 1). -/
def Obligations.StepRunsTheDecodedOperation : Prop :=
  ∀ (s : State) (i : Instr) (rest : List Word),
    s.rst = false → s.seq = .idle → decodeRequest s.requests = .legal i rest →
    step s = exec i { s with requests := rest }

/-- R50, R151: in IDLE with no whole request at the interface the block waits (an incomplete request: log 13). -/
def Obligations.IdleBlockWaitsForAWholeRequest : Prop :=
  ∀ (s : State), s.rst = false → s.seq = .idle →
    (s.requests = [] ∨ ∃ w ws, s.requests = w :: ws ∧ ws.length < payloadCount w) → step s = .next s

/-- R140, R124: while SEQ = RUN no request is taken, and ADDR and PATH do not change; the step is the operation going
on. -/
def Obligations.BusyBlockTakesNoRequest : Prop :=
  ∀ (s : State) (ops : List MicroOp) (n : Nat), s.rst = false → s.seq = .run ops n →
    ∃ t, step s = .next t ∧ t.requests = s.requests ∧ t.addr = s.addr ∧ t.path = s.path ∧
      t.cfg = s.cfg ∧
      ((t.seq = .idle ∧ ∃ c, t.responses = s.responses ++ [{ code := c, value := .none }]) ∨
        (∃ m, t.seq = .run ops m) ∧ t.responses = s.responses)

/-- R59, R133, R136, R151: nothing stops the machine; an illegal request is answered, a failure is a value, a block
without a request waits. That a block that waits for ever (R141; 93 U5: "stuck") answers its own state again, and does
not stop, is the model's form of it (log 2). -/
def Obligations.EveryStepAnswersANextState : Prop :=
  ∀ s : State, ∃ t, step s = .next t

/-- R62: an accepted request gets exactly one response, when the operation has ended, and none while it runs. -/
def Obligations.OneResponsePerRequest : Prop :=
  ∀ (s t : State) (i : Instr) (rest : List Word),
    s.rst = false → s.seq = .idle → decodeRequest s.requests = .legal i rest → step s = .next t →
    (t.seq = .idle ∧ ∃ r, t.responses = s.responses ++ [r] ∧ r.code ≠ .refused) ∨
    ((∃ n, t.seq = .run (expansion s.cfg i) n) ∧ t.responses = s.responses)

/-! ## The run loop (10_state.md R14) -/

/-- R14 for every operation: when every micro-operation ends well the whole expansion is performed in order and the
response is OK; at the first call answered fail the failure entry runs and nothing after it is issued; at a call that is
not answered, or a WAIT that has not run out, the block is in RUN(ops, i) and, while no input comes, stays there. That
all this is one step is log 1, that the waiting step answers the same state is log 2, that time is an input is log 15. -/
def Obligations.OperationsRunInOrderAndStopAtTheFirstFailure : Prop :=
  ∀ (i : Instr) (s : State), invalidLineRequest i = false →
    (∀ as w, endsWell s (expansion s.cfg i) as w →
      ∃ t, exec i s = .next t ∧ t.trace = s.trace ++ okEvents s (expansion s.cfg i) ∧
        t.seq = .idle ∧ t.latches = Latches.empty ∧ t.answers = as ∧ t.elapsed = w ∧
        t.fail = s.fail ∧ t.err = s.err ∧ t.requests = s.requests ∧
        t.responses = s.responses ++ [{ code := .ok, value := okValue s i }]) ∧
    (∀ n m msg as w, (expansion s.cfg i)[n]? = some m → m.isPort = true →
      endsWell s ((expansion s.cfg i).take n) (.fail msg :: as) w →
      ∃ t, exec i s = .next t ∧
        t.trace = s.trace ++ okEvents s ((expansion s.cfg i).take n) ++
          [{ op := m, answer := .fail msg, addr := s.addr, path := s.path }] ∧
        t.seq = .idle ∧ t.latches = Latches.empty ∧ t.answers = as ∧ t.elapsed = w ∧
        t.fail = true ∧ t.err = { kind := .transport, text := msg } ∧ t.requests = s.requests ∧
        t.responses = s.responses ++ [{ code := .fail, value := .none }]) ∧
    (∀ n m as w, (expansion s.cfg i)[n]? = some m → cannotEnd m as w →
      endsWell s ((expansion s.cfg i).take n) as w →
      ∃ t, exec i s = .next t ∧
        t.trace = s.trace ++ okEvents s ((expansion s.cfg i).take n) ∧
        t.seq = .run (expansion s.cfg i) n ∧ t.answers = as ∧ t.elapsed = w ∧
        t.fail = s.fail ∧ t.err = s.err ∧ t.responses = s.responses ∧
        (s.rst = false → step t = .next t))

/-- R141: a call that is never answered holds the block at it for ever, in RUN(ops, i): whatever is presented at the
request interface and however much time passes, no number of steps changes anything. That a stuck block is one whose
step answers the same state is log 2; that the ports are part of what stays the same is log 10. -/
def Obligations.UnansweredCallHoldsTheBlockForEver : Prop :=
  ∀ (i : Instr) (s : State) (n w : Nat) (m : MicroOp), s.rst = false →
    (expansion s.cfg i)[n]? = some m → m.isPort = true → endsWell s ((expansion s.cfg i).take n) [] w →
    ∃ t, exec i s = .next t ∧ t.seq = .run (expansion s.cfg i) n ∧ t.responses = s.responses ∧
      t.fail = s.fail ∧ t.err = s.err ∧
      ∀ (ws : List Word) (v k : Nat),
        Host.Core.run Sys2Proof.core k { t with requests := ws, elapsed := v } =
          .next { t with requests := ws, elapsed := v }

/-- R14, R40: when the inputs come makes no difference: an operation that waited, for an answer or for time, and then
got the rest ends as it would have ended with all of it at once. That an operation runs as far as its inputs go in one
step, and that they are lists given from outside, are logs 1, 2 and 15. -/
def Obligations.LateAnswersGiveTheSameRun : Prop :=
  ∀ (i : Instr) (s t : State) (bs : List Answer) (v : Nat), s.rst = false →
    exec i s = .next t → t.seq ≠ .idle →
    step ((t.offerAnswers bs).offerElapsed v) = exec i ((s.offerAnswers bs).offerElapsed v)

/-- R19: what an operation performs, and its response code, depend on its operands, the parameters and the inputs only,
not on FAIL, ERR, ADDR, PATH, the ports or anything done before. -/
def Obligations.OperationsDoNotDependOnHistory : Prop :=
  ∀ (i : Instr) (s s' t t' : State), s.cfg = s'.cfg → s.answers = s'.answers → s.elapsed = s'.elapsed →
    exec i s = .next t → exec i s' = .next t' →
    ∃ l l' r r', t.trace = s.trace ++ l ∧ t'.trace = s'.trace ++ l' ∧
      l.map (fun e => (e.op, e.answer)) = l'.map (fun e => (e.op, e.answer)) ∧
      t.responses = s.responses ++ r ∧ t'.responses = s'.responses ++ r' ∧
      r.map Response.code = r'.map Response.code ∧ t.seq = t'.seq ∧ t.answers = t'.answers ∧
      t.elapsed = t'.elapsed

/-- What no operation but SETADDR and SETPATH changes, on every path (ok, fail, waiting): the parameters, ADDR, PATH,
the request words; the trace grows by a first part of the expansion, under the ADDR and PATH in force; a port no
performed micro-operation was addressed to keeps its value and direction; only INIT changes a direction; the bus is as
known or lost as before where no call failed (log 28). That this holds of the port of a call still in flight too is
log 10. -/
def Obligations.FrameOfTheOperations : Prop :=
  ∀ (i : Instr) (s t : State), (∀ a, i ≠ .setaddr a) → (∀ p, i ≠ .setpath p) →
    exec i s = .next t →
    t.cfg = s.cfg ∧ t.addr = s.addr ∧ t.path = s.path ∧ t.requests = s.requests ∧ t.rst = s.rst ∧
    (∃ l, t.trace = s.trace ++ l ∧ l.map Event.op <+: expansion s.cfg i ∧
      (∀ e ∈ l, e.addr = s.addr ∧ e.path = s.path) ∧
      (∀ p, (∀ e ∈ l, e.op.targets p = false) → t.port p = s.port p) ∧
      (i ≠ .init → (∀ e ∈ l, e.answer = .ok) → t.busLost = s.busLost)) ∧
    (i ≠ .init → ∀ p, (t.port p).dir = (s.port p).dir)

/-- R11: while an operation waits, LINE, COL, CUR, BLK and TEXT hold the operands its request carried (no value where it
carries none; that INIT's own SETCUR and WRSTR steps set none is log 14), and inside a strobe (its five
micro-operations, `n` being one of them) CTRL and DATA hold that strobe's control word and data byte. -/
def Obligations.LatchesHoldTheOperandsWhileAnOperationRuns : Prop :=
  ∀ (i : Instr) (s t : State) (n : Nat), exec i s = .next t → t.seq = .run (expansion s.cfg i) n →
    (t.latches.line = match i with | .setcur line _ => some line | _ => none) ∧
    (t.latches.col = match i with | .setcur _ col => some col | _ => none) ∧
    (t.latches.cur = match i with | .setdisp cur _ => some cur | _ => none) ∧
    (t.latches.blk = match i with | .setdisp _ blk => some blk | _ => none) ∧
    (t.latches.text = match i with | .wrstr text => some text | _ => none) ∧
    (∀ (j : Nat) (c d : Byte), j ≤ n → n < j + 5 →
      ((expansion s.cfg i).drop j).take 5 =
        [.wr .p0 d, .wr .p1 c, .wr .p1 (c ||| s.cfg.enMask), .wait .en, .wr .p1 c] →
      t.latches.ctrl = some c ∧ t.latches.data = some d)

/-! ## Failures -/

/-- R21, R33: when a port write fails, every earlier micro-operation keeps its effect on OUT and DIR, the other port
keeps its value, and the failed target holds a free value (93 U1, log 8). For INIT, whose writes come after both its
`MODE`s: both ports are outputs, and a port not written yet holds the free value its `MODE` left. -/
def Obligations.FailedWriteKeepsTheOtherPort : Prop :=
  ∀ (i : Instr) (s : State) (n w : Nat) (p : Port) (v : Byte) (msg : List Byte) (as : List Answer),
    (expansion s.cfg i)[n]? = some (.wr p v) →
    endsWell s ((expansion s.cfg i).take n) (.fail msg :: as) w →
    ∃ t, exec i s = .next t ∧ t.adapterErr = msg ∧
      (i ≠ .init →
        (∀ q, q ≠ p → t.port q =
          { s.port q with out := lastWrite q ((expansion s.cfg i).take n) (s.port q).out }) ∧
        t.port p = { s.port p with out := Config.freePins s.free } ∧ t.free = s.free + 1) ∧
      (i = .init →
        (p ≠ .p0 → t.port0 =
          { out := lastWrite .p0 ((expansion s.cfg i).take n) (Config.freePins s.free), dir := .output }) ∧
        (p ≠ .p1 → t.port1 =
          { out := lastWrite .p1 ((expansion s.cfg i).take n) (Config.freePins (s.free + 1)), dir := .output }) ∧
        t.port p = { out := Config.freePins (s.free + 2), dir := .output } ∧ t.free = s.free + 3)

/-- R112: `MODE 0` failing leaves both directions as they were (its own port's: log 9) and port 1 untouched; `MODE 1`
failing leaves port 0 an output and port 1's direction as it was; in both cases no port is written. -/
def Obligations.InitFailsAtItsPortModes : Prop :=
  ∀ (s : State) (msg : List Byte) (as : List Answer),
    (s.answers = .fail msg :: as →
      ∃ t, exec .init s = .next t ∧ t.port0.dir = s.port0.dir ∧ t.port1 = s.port1 ∧
        t.fail = true ∧ t.err = { kind := .transport, text := msg } ∧
        t.trace = s.trace ++ [{ op := .mode .p0, answer := .fail msg, addr := s.addr, path := s.path }]) ∧
    (s.answers = .ok :: .fail msg :: as →
      ∃ t, exec .init s = .next t ∧ t.port0.dir = .output ∧ t.port1.dir = s.port1.dir ∧
        t.fail = true ∧ t.err = { kind := .transport, text := msg } ∧
        t.trace = s.trace ++ okEvents s [.mode .p0] ++
          [{ op := .mode .p1, answer := .fail msg, addr := s.addr, path := s.path }])

/-- R130, R132: after an operation ERR is what it was, or a transport failure with a message of the adapter's, which is
never the invalid-line message, or the invalid-line failure, raised by SETCUR alone, with the fixed message. -/
def Obligations.FailureKindsAndTheirMessages : Prop :=
  ∀ (i : Instr) (s t : State), messagesDistinct s → exec i s = .next t →
    (t.err = s.err ∧ t.fail = s.fail) ∨
    (t.fail = true ∧ t.err.kind = .transport ∧ .fail t.err.text ∈ s.answers ∧
      t.err.text ≠ s.cfg.msgInvalidLine) ∨
    (t.fail = true ∧ t.err = { kind := .invalidLine, text := s.cfg.msgInvalidLine } ∧
      ∃ line col, i = .setcur line col ∧ line.toNat ∉ [1, 2, 3, 4])

/-- R15: FAIL and ERR change only with a FAIL response, together; nothing but reset clears FAIL; reset clears it. -/
def Obligations.FailIsStickyAndSetOnlyByFailures : Prop :=
  ∀ (s t : State), step s = .next t →
    (s.rst = false →
      (t.fail = s.fail ∧ t.err = s.err ∧
        ∃ l, t.responses = s.responses ++ l ∧ ∀ r ∈ l, r.code ≠ .fail) ∨
      (t.fail = true ∧ t.err.kind ≠ .none ∧
        t.responses = s.responses ++ [{ code := .fail, value := .none }])) ∧
    (s.rst = true → t.fail = false)

/-- R98: a line outside {1,2,3,4} fails at once: no micro-operation, FAIL, ERR, the response FAIL, and nothing else. -/
def Obligations.SetcurInvalidLineFailsWithoutBusAccess : Prop :=
  ∀ (line : BitVec 4) (col : Byte) (s : State), line.toNat ∉ [1, 2, 3, 4] →
    exec (.setcur line col) s = .next
      { s with
        fail := true
        err := { kind := .invalidLine, text := s.cfg.msgInvalidLine }
        seq := .idle
        latches := Latches.empty
        responses := s.responses ++ [{ code := .fail, value := .none }] }

/-! ## The operations' results, every call answered ok -/

/-- R91: WRDAT. -/
def Obligations.WrdatWritesOneDataByte : Prop :=
  ∀ (b : Byte) (s : State) (as : List Answer) (w : Nat), s.answers = .ok :: .ok :: .ok :: .ok :: as →
    s.elapsed = w + 2 → exec (.wrdat b) s = .next
      { s with
        seq := .idle
        latches := Latches.empty
        answers := as
        elapsed := w
        port0 := { s.port0 with out := b }
        port1 := { s.port1 with out := s.cfg.rsMask }
        trace := s.trace ++ okEvents s (dataWrite s.cfg b)
        responses := s.responses ++ [{ code := .ok, value := .none }] }

/-- R92: WRCMD. -/
def Obligations.WrcmdWritesOneCommandByte : Prop :=
  ∀ (b : Byte) (s : State) (as : List Answer) (w : Nat), s.answers = .ok :: .ok :: .ok :: .ok :: as →
    s.elapsed = w + 2 → exec (.wrcmd b) s = .next (commandDone s as w b [])

/-- R93, R94, R104: CLEAR and HOME are one command write, generic settle included, and then their own wait. -/
def Obligations.ClearAndHomeAddTheirOwnWait : Prop :=
  ∀ (s : State) (as : List Answer) (w : Nat), s.answers = .ok :: .ok :: .ok :: .ok :: as → s.elapsed = w + 3 →
    exec .clear s = .next (commandDone s as w s.cfg.cmdClearDisplay [.wait .clear]) ∧
    exec .home s = .next (commandDone s as w s.cfg.cmdCursorHome [.wait .home])

/-- R95: SETDISP is one command write of the byte composed from "display on" and the two optional bits. -/
def Obligations.SetdispWritesTheComposedByte : Prop :=
  ∀ (cur blk : Bool) (s : State) (as : List Answer) (w : Nat), s.answers = .ok :: .ok :: .ok :: .ok :: as →
    s.elapsed = w + 2 → exec (.setdisp cur blk) s = .next
      (commandDone s as w
        (s.cfg.cmdDisplayControl ||| s.cfg.displayOn ||| (if cur then s.cfg.cursorOn else 0#8) |||
          (if blk then s.cfg.blinkOn else 0#8)) [])

/-- R97: SETCUR with a valid line is one command write of CMD_SET_DDRAM | ((LINE_BASE[line] + col) mod 256). -/
def Obligations.SetcurWritesTheLineAddress : Prop :=
  ∀ (line : BitVec 4) (col base : Byte) (s : State) (as : List Answer) (w : Nat),
    s.answers = .ok :: .ok :: .ok :: .ok :: as → s.elapsed = w + 2 →
    ((line = 1#4 ∧ base = s.cfg.lineBase1) ∨ (line = 2#4 ∧ base = s.cfg.lineBase2) ∨
      (line = 3#4 ∧ base = s.cfg.lineBase3) ∨ (line = 4#4 ∧ base = s.cfg.lineBase4)) →
    exec (.setcur line col) s = .next
      (commandDone s as w
        (s.cfg.cmdSetDdram ||| BitVec.ofNat 8 ((base.toNat + col.toNat) % 256)) [])

/-- R101: WRSTR writes each byte as one data write, first byte first. -/
def Obligations.WrstrWritesEachByteInOrder : Prop :=
  ∀ (text : List Byte) (s : State) (as : List Answer) (w : Nat),
    s.answers = List.replicate (4 * text.length) .ok ++ as → s.elapsed = w + 2 * text.length →
    exec (.wrstr text) s = .next
      { s with
        seq := .idle
        latches := Latches.empty
        answers := as
        elapsed := w
        port0 := { s.port0 with out := text.getLastD s.port0.out }
        port1 := { s.port1 with out := if text = [] then s.port1.out else s.cfg.rsMask }
        trace := s.trace ++ okEvents s (text.flatMap (dataWrite s.cfg))
        responses := s.responses ++ [{ code := .ok, value := .none }] }

/-- R102 (c), (d): a call failing inside the k-th character's data write (its (j+1)-th port write): the characters
before it have been written whole, its own write was started and stopped there, no later one is started. -/
def Obligations.WrstrStopsAtTheFailingCharacter : Prop :=
  ∀ (done later : List Byte) (ch : Byte) (s : State) (j : Fin 4) (msg : List Byte) (as : List Answer),
    s.answers = List.replicate (4 * done.length + j.val) .ok ++ .fail msg :: as →
    2 * done.length + (if j.val = 3 then 1 else 0) ≤ s.elapsed →
    ∃ t part last, exec (.wrstr (done ++ ch :: later)) s = .next t ∧
      part ++ [last] <+: dataWrite s.cfg ch ∧ portCount part = j.val ∧ last.isPort = true ∧
      t.trace = s.trace ++ okEvents s (done.flatMap (dataWrite s.cfg)) ++ okEvents s part ++
        [{ op := last, answer := .fail msg, addr := s.addr, path := s.path }] ∧
      t.fail = true ∧ t.err = { kind := .transport, text := msg } ∧ t.seq = .idle ∧
      t.responses = s.responses ++ [{ code := .fail, value := .none }]

/-- R110, R137: INIT performs its nine steps in their fixed order; both ports end as outputs and the bus is not lost
(log 28). -/
def Obligations.InitPerformsTheNineSteps : Prop :=
  ∀ (s : State) (as : List Answer) (w : Nat) (ops : List MicroOp),
    s.answers = List.replicate (36 + 4 * bannerLength s.cfg) .ok ++ as →
    s.elapsed = w + (19 + 2 * bannerLength s.cfg) →
    ops = [.mode .p0, .mode .p1, .wr .p0 0#8, .wr .p1 0#8, .wait .boot] ++
      commandWrite s.cfg (s.cfg.cmdFunctionSet ||| s.cfg.function8Bit ||| s.cfg.function2Line |||
        s.cfg.function5x7) ++ [.wait .fset] ++
      commandWrite s.cfg (dispByte s.cfg false false) ++
      commandWrite s.cfg s.cfg.cmdClearDisplay ++ [.wait .clear] ++
      commandWrite s.cfg (s.cfg.cmdEntryMode ||| s.cfg.entryIncrement ||| s.cfg.entryNoShift) ++
      commandWrite s.cfg (ddramByte s.cfg s.cfg.banner.b0.line s.cfg.banner.b0.col) ++
      s.cfg.banner.b0.text.flatMap (dataWrite s.cfg) ++
      commandWrite s.cfg (ddramByte s.cfg s.cfg.banner.b1.line s.cfg.banner.b1.col) ++
      s.cfg.banner.b1.text.flatMap (dataWrite s.cfg) ++
      commandWrite s.cfg (ddramByte s.cfg s.cfg.banner.b2.line s.cfg.banner.b2.col) ++
      s.cfg.banner.b2.text.flatMap (dataWrite s.cfg) ++
      commandWrite s.cfg (ddramByte s.cfg s.cfg.banner.b3.line s.cfg.banner.b3.col) ++
      s.cfg.banner.b3.text.flatMap (dataWrite s.cfg) →
    exec .init s = .next
      { s with
        seq := .idle
        latches := Latches.empty
        answers := as
        elapsed := w
        port0 := { out := lastWrite .p0 ops 0#8, dir := .output }
        port1 := { out := lastWrite .p1 ops 0#8, dir := .output }
        busLost := false
        trace := s.trace ++ okEvents s ops
        responses := s.responses ++ [{ code := .ok, value := .none }]
        free := s.free + 2 }

/-- R120, R121: GETERR and FAILED answer ERR and FAIL and change nothing (SEQ back in IDLE, no latch with a value). -/
def Obligations.StatusOperationsReadWithoutWriting : Prop :=
  ∀ (s : State),
    exec .geterr s = .next
      { s with
        seq := .idle
        latches := Latches.empty
        responses := s.responses ++ [{ code := .ok, value := .err s.err }] } ∧
    exec .failed s = .next
      { s with
        seq := .idle
        latches := Latches.empty
        responses := s.responses ++ [{ code := .ok, value := .flag s.fail }] }

/-- R122: SETADDR stores the byte, unvalidated, answers OK and performs no micro-operation. Where the address is a new
one, the ports then reached have free values and an unknown direction and the bus is lost (the model's reading of 93 U7,
logs 11, 28); where it is the one in force nothing of them changes. -/
def Obligations.SetaddrStoresTheAddress : Prop :=
  ∀ (addr : Byte) (s : State),
    exec (.setaddr addr) s = .next
      (if (addr.toNat : Int) = s.addr then
        { s with
          seq := .idle
          latches := Latches.empty
          responses := s.responses ++ [{ code := .ok, value := .none }] }
      else
        { s with
          addr := (addr.toNat : Int)
          seq := .idle
          latches := Latches.empty
          port0 := { out := Config.freePins s.free, dir := .unknown }
          port1 := { out := Config.freePins (s.free + 1), dir := .unknown }
          busLost := true
          free := s.free + 2
          responses := s.responses ++ [{ code := .ok, value := .none }] })

/-- R123: SETPATH, in the same way (logs 11, 28). -/
def Obligations.SetpathStoresThePath : Prop :=
  ∀ (path : List Byte) (s : State),
    exec (.setpath path) s = .next
      (if path = s.path then
        { s with
          seq := .idle
          latches := Latches.empty
          responses := s.responses ++ [{ code := .ok, value := .none }] }
      else
        { s with
          path := path
          seq := .idle
          latches := Latches.empty
          port0 := { out := Config.freePins s.free, dir := .unknown }
          port1 := { out := Config.freePins (s.free + 1), dir := .unknown }
          busLost := true
          free := s.free + 2
          responses := s.responses ++ [{ code := .ok, value := .none }] })

/-! ## What the operations are made of -/

/-- R80: the control word has exactly the asked-for lines active, and every other bit 0. -/
def Obligations.ControlWordEncodesItsThreeLines : Prop :=
  ∀ (cfg : Params) (rs rw en : Bool), cfg.masksOk = true →
    ctrl cfg rs rw en =
      (if rs then cfg.rsMask else 0#8) ||| (if rw then cfg.rwMask else 0#8) |||
        (if en then cfg.enMask else 0#8) ∧
    (ctrl cfg rs rw en &&& cfg.rsMask ≠ 0#8 ↔ rs = true) ∧
    (ctrl cfg rs rw en &&& cfg.rwMask ≠ 0#8 ↔ rw = true) ∧
    (ctrl cfg rs rw en &&& cfg.enMask ≠ 0#8 ↔ en = true) ∧
    ctrl cfg rs rw en &&& ~~~(cfg.rsMask ||| cfg.rwMask ||| cfg.enMask) = 0#8

/-- R65, R81, R32: port 1 only ever gets one of four words; the read/write line is never driven, and the lines that are
not control lines are written 0. -/
def Obligations.ControlPortGetsFourWordsAndNeverReads : Prop :=
  ∀ (cfg : Params) (i : Instr) (v : Byte), .wr .p1 v ∈ expansion cfg i →
    v ∈ [0#8, cfg.enMask, cfg.rsMask, cfg.rsMask ||| cfg.enMask] ∧
    v &&& ~~~(cfg.rsMask ||| cfg.rwMask ||| cfg.enMask) = 0#8 ∧
    (cfg.masksOk = true → v &&& cfg.rwMask = 0#8)

/-- R34, R112: only INIT sets a port to output and uses the boot and function-set waits. -/
def Obligations.OnlyInitSetsPortModes : Prop :=
  ∀ (cfg : Params) (i : Instr) (m : MicroOp), m ∈ expansion cfg i →
    (∃ p, m = .mode p) ∨ m = .wait .boot ∨ m = .wait .fset → i = .init

/-- R83: along every operation, from a bus with EN low, the enable pulse keeps its shape; INIT from its zero writes
on. Port 0 is written only while EN is low, and while EN is high, or by a write that moves it, no other bit of port 1
changes, so data and RS are stable from before EN rises until after it falls. -/
def Obligations.EnablePulseKeepsItsShape : Prop :=
  ∀ (cfg : Params) (i : Instr) (o1 : Byte), cfg.masksOk = true →
    (i ≠ .init → enHigh cfg o1 = false → pulseShape cfg o1 (expansion cfg i) = true) ∧
    pulseShape cfg 0#8 ((expansion cfg .init).drop 4) = true

/-- R85, R102 (b): in IDLE, nothing having failed on the bus since INIT (R161), from ports that are outputs with EN
low, a completed WRSTR presents the display with its bytes as data, in order, one strobe each, and a completed WRCMD with
its byte as a command; nothing else is presented by the events the operation adds. -/
def Obligations.DisplayReceivesTheBytesInOrder : Prop :=
  ∀ (s t : State), s.seq = .idle → s.busLost = false → s.port0.dir = .output → s.port1.dir = .output →
    enHigh s.cfg s.port1.out = false → s.cfg.masksOk = true →
    (∀ text as w, endsWell s (expansion s.cfg (.wrstr text)) as w → exec (.wrstr text) s = .next t →
      delivered s.cfg s.bus (t.trace.drop s.trace.length) = text.map fun ch => { rs := true, data := ch }) ∧
    (∀ b as w, endsWell s (expansion s.cfg (.wrcmd b)) as w → exec (.wrcmd b) s = .next t →
      delivered s.cfg s.bus (t.trace.drop s.trace.length) = [{ rs := false, data := b }])

/-- R114, R152: a completed INIT, whatever the bus was before, has told the display its settings and the banner:
function set, display attributes with cursor and blink off, clear, entry mode, then each banner position and text. -/
def Obligations.InitTellsTheDisplayItsSettings : Prop :=
  ∀ (s t : State) (as : List Answer) (w : Nat), s.cfg.masksOk = true →
    endsWell s (expansion s.cfg .init) as w → exec .init s = .next t →
    delivered s.cfg s.bus (t.trace.drop s.trace.length) =
      [ { rs := false, data := s.cfg.cmdFunctionSet ||| s.cfg.function8Bit ||| s.cfg.function2Line |||
            s.cfg.function5x7 },
        { rs := false, data := s.cfg.cmdDisplayControl ||| s.cfg.displayOn },
        { rs := false, data := s.cfg.cmdClearDisplay },
        { rs := false, data := s.cfg.cmdEntryMode ||| s.cfg.entryIncrement ||| s.cfg.entryNoShift } ] ++
      [s.cfg.banner.b0, s.cfg.banner.b1, s.cfg.banner.b2, s.cfg.banner.b3].flatMap fun e =>
        { rs := false, data := ddramByte s.cfg e.line e.col } :: e.text.map fun ch => { rs := true, data := ch }

/-- R153.3, R161, 93 U4: before a completed INIT, a port's direction being unknown, and from a failed call on, the bus
being lost, no operation but INIT is known to reach the display. -/
def Obligations.NothingIsKnownToReachTheDisplayBeforeInit : Prop :=
  ∀ (i : Instr) (s t : State), i ≠ .init →
    (s.busLost = true ∨ s.port0.dir = .unknown ∨ s.port1.dir = .unknown) → exec i s = .next t →
    delivered s.cfg s.bus (t.trace.drop s.trace.length) = []

/-- R161, R137: a failed call loses the bus, and so does a reset (the model's reading of R150 and R153.3, log 28); a lost
bus stays lost, and what the step performs is not known to reach the display, as long as no `MODE` answers ok, which is
INIT's (R34). -/
def Obligations.FromAFailedCallOnNothingIsClaimedUntilInit : Prop :=
  ∀ (s t : State), step s = .next t →
    (s.rst = true → t.busLost = true) ∧
    ∃ l, t.trace = s.trace ++ l ∧
      ((∃ e ∈ l, e.answer ≠ .ok) → t.busLost = true) ∧
      (s.busLost = true → (∀ e ∈ l, ∀ p, e.op = .mode p → e.answer ≠ .ok) →
        t.busLost = true ∧ delivered s.cfg s.bus l = [])

/-- R137, R83: a bus that an operation leaves not lost can be used by the next one: both ports are outputs and EN is low.
INIT brings it there from anywhere, and every other operation that ends leaves it so or lost. -/
def Obligations.ABusThatIsNotLostCanBeUsed : Prop :=
  ∀ (i : Instr) (s t : State), s.cfg.masksOk = true → (i ≠ .init → busReady s) → exec i s = .next t →
    t.seq = .idle → busReady t

/-- R97, R99, R100: the column is added in 8 bits with the carry dropped; with the default parameters and a column of
the display the byte is CMD_SET_DDRAM + base + column, with no carry. -/
def Obligations.LineAddressArithmetic : Prop :=
  (∀ (cfg : Params) (l : DisplayLine) (col : Byte),
    (ddramAddress cfg l col).toNat = ((lineBase cfg l).toNat + col.toNat) % 256) ∧
  (∀ (l : DisplayLine) (col : Byte), col.toNat < Config.cols →
    (ddramByte Config.default l col).toNat =
      0x80 + (lineBase Config.default l).toNat + col.toNat)

/-- R6, R96: the composed bytes with the default parameters. -/
def Obligations.ComposedBytesWithTheDefaults : Prop :=
  fsetByte Config.default = 0x38#8 ∧ entryByte Config.default = 0x06#8 ∧
  dispByte Config.default false false = 0x0C#8 ∧ dispByte Config.default false true = 0x0D#8 ∧
  dispByte Config.default true false = 0x0E#8 ∧ dispByte Config.default true true = 0x0F#8 ∧
  ddramByte Config.default .l2 5#8 = 0xC5#8 ∧ ddramByte Config.default .l4 200#8 = 0x9C#8

/-- R5, R166: the default parameters meet every constraint (T(HOME) > T(CMD) is the model's reading of "the same class":
log 27). -/
def Obligations.DefaultParametersMeetTheConstraints : Prop :=
  Config.default.wf = true

/-- R115: the size and the least duration of INIT, L being the banner's length. -/
def Obligations.InitSizeAndDuration : Prop :=
  ∀ (cfg : Params),
    modeCount (expansion cfg .init) = 2 ∧
    writeCount (expansion cfg .init) = 34 + 4 * bannerLength cfg ∧
    (expansion cfg .init).length = 55 + 6 * bannerLength cfg ∧
    (delayUs cfg = delayUs Config.default →
      leastTimeUs cfg (expansion cfg .init) = 22560 + 60 * bannerLength cfg)

/-- R167: the least time each other operation keeps the block busy. -/
def Obligations.LeastTimesOfTheOperations : Prop :=
  ∀ (cfg : Params) (b addr : Byte) (cur blk : Bool) (line : BitVec 4) (col : Byte) (text : List Byte),
    leastTimeUs cfg (expansion cfg (.wrdat b)) = delayUs cfg .en + delayUs cfg .data ∧
    leastTimeUs cfg (expansion cfg (.wrcmd b)) = delayUs cfg .en + delayUs cfg .cmd ∧
    leastTimeUs cfg (expansion cfg (.setdisp cur blk)) = delayUs cfg .en + delayUs cfg .cmd ∧
    leastTimeUs cfg (expansion cfg (.setcur line col)) =
      (if line.toNat ∈ [1, 2, 3, 4] then delayUs cfg .en + delayUs cfg .cmd else 0) ∧
    leastTimeUs cfg (expansion cfg .clear) =
      delayUs cfg .en + delayUs cfg .cmd + delayUs cfg .clear ∧
    leastTimeUs cfg (expansion cfg .home) =
      delayUs cfg .en + delayUs cfg .cmd + delayUs cfg .home ∧
    leastTimeUs cfg (expansion cfg (.wrstr text)) =
      text.length * (delayUs cfg .en + delayUs cfg .data) ∧
    leastTimeUs cfg (expansion cfg .geterr) = 0 ∧ leastTimeUs cfg (expansion cfg .failed) = 0 ∧
    leastTimeUs cfg (expansion cfg (.setaddr addr)) = 0 ∧ leastTimeUs cfg (expansion cfg (.setpath text)) = 0

/-! ## Reset and the invariant -/

/-- R23: the values after reset, for every configuration (OUT[0] and OUT[1] are free values, about which nothing is
said), and the reset state of this model is the one with the default configuration. -/
def Obligations.ResetLeavesTheResetValues : Prop :=
  (∀ cfg : Params,
    (State.resetWith cfg).cfg = cfg ∧ (State.resetWith cfg).fail = false ∧
    (State.resetWith cfg).err = { kind := .none, text := [] } ∧
    (State.resetWith cfg).addr = cfg.addrDefault ∧ (State.resetWith cfg).path = cfg.pathDefault ∧
    (State.resetWith cfg).seq = .idle ∧ (State.resetWith cfg).latches = Latches.empty ∧
    (State.resetWith cfg).port0.dir = .unknown ∧ (State.resetWith cfg).port1.dir = .unknown) ∧
  State.reset = State.resetWith Config.default

/-- R150: reset, also in the middle of an operation, gives the reset values, issues no micro-operation, gives no
response and drops the operation. The directions are unknown after it where the block was in IDLE (R23), or where the
reset values of ADDR and PATH lead to another expander (log 11). What reset leaves alone outside the block is log 4. -/
def Obligations.ResetDropsTheOperationInProgress : Prop :=
  ∀ s : State, s.rst = true →
    ∃ t, step s = .next t ∧ t.fail = false ∧ t.err = { kind := .none, text := [] } ∧
      t.addr = s.cfg.addrDefault ∧ t.path = s.cfg.pathDefault ∧ t.seq = .idle ∧
      t.latches = Latches.empty ∧ t.trace = s.trace ∧ t.responses = s.responses ∧ t.cfg = s.cfg ∧ t.rst = false ∧
      (s.seq = .idle ∨ s.addr ≠ s.cfg.addrDefault ∨ s.path ≠ s.cfg.pathDefault →
        t.port0.dir = .unknown ∧ t.port1.dir = .unknown)

/-- R150, R21, 93 U15: a reset in the middle of an operation leaves the ports as a failure at that point: OUT of the port
of the call in flight is a free value, and everything else of both ports is as it was; a reset during a WAIT leaves
both ports as they were. (ADDR and PATH being at their reset values, so that the ports are the same ones: log 11; that
R21 and not R23 gives the ports here is log 21.) -/
def Obligations.ResetInTheMiddleLeavesThePortsAsAFailure : Prop :=
  ∀ (s : State) (ops : List MicroOp) (n : Nat) (m : MicroOp), s.rst = true → s.seq = .run ops n →
    ops[n]? = some m → s.addr = s.cfg.addrDefault → s.path = s.cfg.pathDefault →
    ∃ t, step s = .next t ∧
      (∀ p, m.targets p = true → t.port p = { s.port p with out := Config.freePins s.free }) ∧
      (∀ p, m.targets p = false → t.port p = s.port p)

/-- R11, R12, R16, R65, R121: every step keeps the invariant. Its clause on RUN(ops, i) is R12's 0 ≤ i < len(ops); the
position may be a port call or a WAIT. -/
def Obligations.EveryStepKeepsTheInvariant : Prop :=
  ∀ s t : State, Inv s → step s = .next t → Inv t

/-- The reset state meets the invariant. -/
def Obligations.ResetMeetsTheInvariant : Prop :=
  Inv State.reset

/-- R121, R65: in every state the machine can come to from reset, by steps and by any inputs of the outside world, the
invariant holds; so FAIL is set exactly when ERR holds a failure, and port 1 has only ever been given the four control
words. That the parameters are a field that keeps the default values is the model's (logs 5, 6). -/
def Obligations.ReachableStatesMeetTheInvariant : Prop :=
  ∀ s : State, Reachable State.reset s →
    (s.fail = true ↔ s.err.kind ≠ .none) ∧
    (∀ e ∈ s.trace, ∀ v, e.op = .wr .p1 v → v ∈ ctrlWords s.cfg) ∧
    s.cfg = Config.default ∧ Inv s
end

