-- ==== Sys2Proof/Laws/Encoding.lean ====
section
/-! SUPPORT. The fields of a header word put together and taken apart, and lists of payload words. -/

namespace Sys2Proof

/-! ## Fields of a word put together -/

theorem fields_opLen (op : BitVec 4) (l : BitVec 12) :
    opField (op ++ l) = op ∧ lenField (op ++ l) = l := by
  constructor
  · change BitVec.extractLsb' 12 4 (op ++ l : BitVec (4 + 12)) = op
    ext i hi
    simp only [BitVec.getElem_extractLsb', BitVec.getLsbD_append]
    simp [BitVec.getLsbD_eq_getElem, hi]
  · change BitVec.extractLsb' 0 12 (op ++ l : BitVec (4 + 12)) = l
    ext i hi
    simp only [BitVec.getElem_extractLsb', BitVec.getLsbD_append]
    simp [BitVec.getLsbD_eq_getElem, hi]

theorem fields_opLineByte (op line : BitVec 4) (b : Byte) :
    opField (op ++ line ++ b) = op ∧ lineField (op ++ line ++ b) = line ∧
      byteField (op ++ line ++ b) = b := by
  refine ⟨?_, ?_, ?_⟩
  · change BitVec.extractLsb' 12 4 (op ++ line ++ b : BitVec (4 + 4 + 8)) = op
    ext i hi
    simp only [BitVec.getElem_extractLsb', BitVec.getLsbD_append]
    rw [if_neg (by omega), if_neg (by omega)]
    simp [show 12 + i - 8 - 4 = i by omega, BitVec.getLsbD_eq_getElem, hi]
  · change BitVec.extractLsb' 8 4 (op ++ line ++ b : BitVec (4 + 4 + 8)) = line
    ext i hi
    simp only [BitVec.getElem_extractLsb', BitVec.getLsbD_append]
    simp [BitVec.getLsbD_eq_getElem, hi]
  · change BitVec.extractLsb' 0 8 (op ++ line ++ b : BitVec (4 + 4 + 8)) = b
    ext i hi
    simp only [BitVec.getElem_extractLsb', BitVec.getLsbD_append]
    simp [BitVec.getLsbD_eq_getElem, hi]

theorem fields_opFlags (op : BitVec 4) (cur blk : Bool) :
    let w : Word := op ++ 0#10 ++ BitVec.ofBool cur ++ BitVec.ofBool blk
    opField w = op ∧ flagsZeroField w = 0#10 ∧ w.getLsbD 1 = cur ∧ w.getLsbD 0 = blk := by
  revert op cur blk
  simp only [opField, flagsZeroField]
  decide +kernel

theorem fields_payload (b : Byte) :
    payloadHigh (0#8 ++ b) = 0#8 ∧ byteField (0#8 ++ b) = b := by
  constructor
  · change BitVec.extractLsb' 8 8 (0#8 ++ b : BitVec (8 + 8)) = 0#8
    ext i hi
    simp only [BitVec.getElem_extractLsb', BitVec.getLsbD_append]
    simp
  · change BitVec.extractLsb' 0 8 (0#8 ++ b : BitVec (8 + 8)) = b
    ext i hi
    simp only [BitVec.getElem_extractLsb', BitVec.getLsbD_append]
    simp [BitVec.getLsbD_eq_getElem, hi]

/-! ## A word is its fields -/

theorem word_opLen (w : Word) : opField w ++ lenField w = w := by
  change (BitVec.extractLsb' 12 4 w ++ BitVec.extractLsb' 0 12 w : BitVec (4 + 12)) = w
  ext i hi
  simp only [BitVec.getElem_append, BitVec.getElem_extractLsb']
  split
  · simp [BitVec.getLsbD_eq_getElem, hi]
  · rw [show 12 + (i - 12) = i by omega]
    simp [BitVec.getLsbD_eq_getElem, hi]

theorem word_opLineByte (w : Word) : opField w ++ lineField w ++ byteField w = w := by
  change (BitVec.extractLsb' 12 4 w ++ BitVec.extractLsb' 8 4 w ++ BitVec.extractLsb' 0 8 w :
    BitVec (4 + 4 + 8)) = w
  ext i hi
  simp only [BitVec.getElem_append, BitVec.getElem_extractLsb']
  split
  · simp [BitVec.getLsbD_eq_getElem, hi]
  · split
    · rw [show 8 + (i - 8) = i by omega]
      simp [BitVec.getLsbD_eq_getElem, hi]
    · rw [show 12 + (i - 8 - 4) = i by omega]
      simp [BitVec.getLsbD_eq_getElem, hi]

theorem word_opFlags (w : Word) :
    opField w ++ flagsZeroField w ++ BitVec.ofBool (w.getLsbD 1) ++ BitVec.ofBool (w.getLsbD 0) = w := by
  change (BitVec.extractLsb' 12 4 w ++ BitVec.extractLsb' 2 10 w ++ BitVec.ofBool (w.getLsbD 1) ++
    BitVec.ofBool (w.getLsbD 0) : BitVec (4 + 10 + 1 + 1)) = w
  ext i hi
  simp only [BitVec.getElem_append, BitVec.getElem_extractLsb']
  split
  · have h : i = 0 := by omega
    subst h
    simp
  · split
    · have h : i = 1 := by omega
      subst h
      simp
    · split
      · rw [show 2 + (i - 1 - 1) = i by omega]
        simp [BitVec.getLsbD_eq_getElem, hi]
      · rw [show 12 + (i - 1 - 1 - 10) = i by omega]
        simp [BitVec.getLsbD_eq_getElem, hi]

theorem word_payload (w : Word) : payloadHigh w ++ byteField w = w := by
  change (BitVec.extractLsb' 8 8 w ++ BitVec.extractLsb' 0 8 w : BitVec (8 + 8)) = w
  ext i hi
  simp only [BitVec.getElem_append, BitVec.getElem_extractLsb']
  split
  · simp [BitVec.getLsbD_eq_getElem, hi]
  · rw [show 8 + (i - 8) = i by omega]
    simp [BitVec.getLsbD_eq_getElem, hi]

/-! ## Payload words -/

theorem arrived_eq (n : Nat) (ws : List Word) : arrived n ws = decide (n ≤ ws.length) := by
  induction n generalizing ws with
  | zero => simp [arrived]
  | succ n ih => cases ws <;> simp [arrived, ih]

@[simp] theorem length_encodePayload (text : List Byte) : (encodePayload text).length = text.length := by
  simp [encodePayload]

theorem encodePayload_ok (text : List Byte) : (encodePayload text).all payloadOk = true := by
  simp [encodePayload, payloadOk, fields_payload]

theorem encodePayload_bytes (text : List Byte) : (encodePayload text).map byteField = text := by
  simp [encodePayload, Function.comp_def, fields_payload]

/-- Payload words that keep Format C are the encoding of their bytes. -/
theorem encodePayload_of_ok (ws : List Word) (h : ws.all payloadOk = true) :
    encodePayload (ws.map byteField) = ws := by
  induction ws with
  | nil => rfl
  | cons w ws ih =>
    simp only [List.all_cons, Bool.and_eq_true] at h
    have hw : payloadHigh w = 0#8 := by simpa [payloadOk] using h.1
    have : (0#8 ++ byteField w : Word) = w := by rw [← hw]; exact word_payload w
    simp only [encodePayload, List.map_cons, List.map_map] at ih ⊢
    rw [this]
    congr 1
    simpa [Function.comp_def] using ih h.2

end Sys2Proof
end

