-- ==== Sys2Proof/Laws/State.lean ====
section
/-! SUPPORT. What each named update of State does to each field: one lemma per field and update. -/

namespace Sys2Proof.Machine

/-! ## setPort, port -/

@[simp] theorem State.setPort_cfg (s : State) (p : Port) (v : PortState) :
    (s.setPort p v).cfg = s.cfg := by cases p <;> rfl
@[simp] theorem State.setPort_fail (s : State) (p : Port) (v : PortState) :
    (s.setPort p v).fail = s.fail := by cases p <;> rfl
@[simp] theorem State.setPort_err (s : State) (p : Port) (v : PortState) :
    (s.setPort p v).err = s.err := by cases p <;> rfl
@[simp] theorem State.setPort_addr (s : State) (p : Port) (v : PortState) :
    (s.setPort p v).addr = s.addr := by cases p <;> rfl
@[simp] theorem State.setPort_path (s : State) (p : Port) (v : PortState) :
    (s.setPort p v).path = s.path := by cases p <;> rfl
@[simp] theorem State.setPort_seq (s : State) (p : Port) (v : PortState) :
    (s.setPort p v).seq = s.seq := by cases p <;> rfl
@[simp] theorem State.setPort_latches (s : State) (p : Port) (v : PortState) :
    (s.setPort p v).latches = s.latches := by cases p <;> rfl
@[simp] theorem State.setPort_busLost (s : State) (p : Port) (v : PortState) :
    (s.setPort p v).busLost = s.busLost := by cases p <;> rfl
@[simp] theorem State.setPort_adapterErr (s : State) (p : Port) (v : PortState) :
    (s.setPort p v).adapterErr = s.adapterErr := by cases p <;> rfl
@[simp] theorem State.setPort_answers (s : State) (p : Port) (v : PortState) :
    (s.setPort p v).answers = s.answers := by cases p <;> rfl
@[simp] theorem State.setPort_elapsed (s : State) (p : Port) (v : PortState) :
    (s.setPort p v).elapsed = s.elapsed := by cases p <;> rfl
@[simp] theorem State.setPort_requests (s : State) (p : Port) (v : PortState) :
    (s.setPort p v).requests = s.requests := by cases p <;> rfl
@[simp] theorem State.setPort_rst (s : State) (p : Port) (v : PortState) :
    (s.setPort p v).rst = s.rst := by cases p <;> rfl
@[simp] theorem State.setPort_trace (s : State) (p : Port) (v : PortState) :
    (s.setPort p v).trace = s.trace := by cases p <;> rfl
@[simp] theorem State.setPort_responses (s : State) (p : Port) (v : PortState) :
    (s.setPort p v).responses = s.responses := by cases p <;> rfl
@[simp] theorem State.setPort_free (s : State) (p : Port) (v : PortState) :
    (s.setPort p v).free = s.free := by cases p <;> rfl

theorem State.port_setPort (s : State) (p q : Port) (v : PortState) :
    (s.setPort p v).port q = if q = p then v else s.port q := by
  cases p <;> cases q <;> rfl

@[simp] theorem State.port_setPort_same (s : State) (p : Port) (v : PortState) :
    (s.setPort p v).port p = v := by
  simp [State.port_setPort]

theorem State.port_setPort_other (s : State) (p q : Port) (v : PortState) (h : q ≠ p) :
    (s.setPort p v).port q = s.port q := by
  simp [State.port_setPort, h]

@[simp] theorem State.port_p0 (s : State) : s.port .p0 = s.port0 := rfl

@[simp] theorem State.port_p1 (s : State) : s.port .p1 = s.port1 := rfl

/-! ## setOut -/

@[simp] theorem State.setOut_cfg (s : State) (p : Port) (v : Byte) :
    (s.setOut p v).cfg = s.cfg := by cases p <;> rfl
@[simp] theorem State.setOut_fail (s : State) (p : Port) (v : Byte) :
    (s.setOut p v).fail = s.fail := by cases p <;> rfl
@[simp] theorem State.setOut_err (s : State) (p : Port) (v : Byte) :
    (s.setOut p v).err = s.err := by cases p <;> rfl
@[simp] theorem State.setOut_addr (s : State) (p : Port) (v : Byte) :
    (s.setOut p v).addr = s.addr := by cases p <;> rfl
@[simp] theorem State.setOut_path (s : State) (p : Port) (v : Byte) :
    (s.setOut p v).path = s.path := by cases p <;> rfl
@[simp] theorem State.setOut_seq (s : State) (p : Port) (v : Byte) :
    (s.setOut p v).seq = s.seq := by cases p <;> rfl
@[simp] theorem State.setOut_latches (s : State) (p : Port) (v : Byte) :
    (s.setOut p v).latches = s.latches := by cases p <;> rfl
@[simp] theorem State.setOut_busLost (s : State) (p : Port) (v : Byte) :
    (s.setOut p v).busLost = s.busLost := by cases p <;> rfl
@[simp] theorem State.setOut_adapterErr (s : State) (p : Port) (v : Byte) :
    (s.setOut p v).adapterErr = s.adapterErr := by cases p <;> rfl
@[simp] theorem State.setOut_answers (s : State) (p : Port) (v : Byte) :
    (s.setOut p v).answers = s.answers := by cases p <;> rfl
@[simp] theorem State.setOut_elapsed (s : State) (p : Port) (v : Byte) :
    (s.setOut p v).elapsed = s.elapsed := by cases p <;> rfl
@[simp] theorem State.setOut_requests (s : State) (p : Port) (v : Byte) :
    (s.setOut p v).requests = s.requests := by cases p <;> rfl
@[simp] theorem State.setOut_rst (s : State) (p : Port) (v : Byte) :
    (s.setOut p v).rst = s.rst := by cases p <;> rfl
@[simp] theorem State.setOut_trace (s : State) (p : Port) (v : Byte) :
    (s.setOut p v).trace = s.trace := by cases p <;> rfl
@[simp] theorem State.setOut_responses (s : State) (p : Port) (v : Byte) :
    (s.setOut p v).responses = s.responses := by cases p <;> rfl
@[simp] theorem State.setOut_free (s : State) (p : Port) (v : Byte) :
    (s.setOut p v).free = s.free := by cases p <;> rfl

/-! ## setOutput -/

@[simp] theorem State.setOutput_cfg (s : State) (p : Port) :
    (s.setOutput p).cfg = s.cfg := by cases p <;> rfl
@[simp] theorem State.setOutput_fail (s : State) (p : Port) :
    (s.setOutput p).fail = s.fail := by cases p <;> rfl
@[simp] theorem State.setOutput_err (s : State) (p : Port) :
    (s.setOutput p).err = s.err := by cases p <;> rfl
@[simp] theorem State.setOutput_addr (s : State) (p : Port) :
    (s.setOutput p).addr = s.addr := by cases p <;> rfl
@[simp] theorem State.setOutput_path (s : State) (p : Port) :
    (s.setOutput p).path = s.path := by cases p <;> rfl
@[simp] theorem State.setOutput_seq (s : State) (p : Port) :
    (s.setOutput p).seq = s.seq := by cases p <;> rfl
@[simp] theorem State.setOutput_latches (s : State) (p : Port) :
    (s.setOutput p).latches = s.latches := by cases p <;> rfl
@[simp] theorem State.setOutput_busLost (s : State) (p : Port) :
    (s.setOutput p).busLost = s.busLost := by cases p <;> rfl
@[simp] theorem State.setOutput_adapterErr (s : State) (p : Port) :
    (s.setOutput p).adapterErr = s.adapterErr := by cases p <;> rfl
@[simp] theorem State.setOutput_answers (s : State) (p : Port) :
    (s.setOutput p).answers = s.answers := by cases p <;> rfl
@[simp] theorem State.setOutput_elapsed (s : State) (p : Port) :
    (s.setOutput p).elapsed = s.elapsed := by cases p <;> rfl
@[simp] theorem State.setOutput_requests (s : State) (p : Port) :
    (s.setOutput p).requests = s.requests := by cases p <;> rfl
@[simp] theorem State.setOutput_rst (s : State) (p : Port) :
    (s.setOutput p).rst = s.rst := by cases p <;> rfl
@[simp] theorem State.setOutput_trace (s : State) (p : Port) :
    (s.setOutput p).trace = s.trace := by cases p <;> rfl
@[simp] theorem State.setOutput_responses (s : State) (p : Port) :
    (s.setOutput p).responses = s.responses := by cases p <;> rfl
@[simp] theorem State.setOutput_free (s : State) (p : Port) :
    (s.setOutput p).free = s.free := by cases p <;> rfl

/-! ## loseOut -/

@[simp] theorem State.loseOut_cfg (s : State) (p : Port) :
    (s.loseOut p).cfg = s.cfg := by cases p <;> rfl
@[simp] theorem State.loseOut_fail (s : State) (p : Port) :
    (s.loseOut p).fail = s.fail := by cases p <;> rfl
@[simp] theorem State.loseOut_err (s : State) (p : Port) :
    (s.loseOut p).err = s.err := by cases p <;> rfl
@[simp] theorem State.loseOut_addr (s : State) (p : Port) :
    (s.loseOut p).addr = s.addr := by cases p <;> rfl
@[simp] theorem State.loseOut_path (s : State) (p : Port) :
    (s.loseOut p).path = s.path := by cases p <;> rfl
@[simp] theorem State.loseOut_seq (s : State) (p : Port) :
    (s.loseOut p).seq = s.seq := by cases p <;> rfl
@[simp] theorem State.loseOut_latches (s : State) (p : Port) :
    (s.loseOut p).latches = s.latches := by cases p <;> rfl
@[simp] theorem State.loseOut_busLost (s : State) (p : Port) :
    (s.loseOut p).busLost = s.busLost := by cases p <;> rfl
@[simp] theorem State.loseOut_adapterErr (s : State) (p : Port) :
    (s.loseOut p).adapterErr = s.adapterErr := by cases p <;> rfl
@[simp] theorem State.loseOut_answers (s : State) (p : Port) :
    (s.loseOut p).answers = s.answers := by cases p <;> rfl
@[simp] theorem State.loseOut_elapsed (s : State) (p : Port) :
    (s.loseOut p).elapsed = s.elapsed := by cases p <;> rfl
@[simp] theorem State.loseOut_requests (s : State) (p : Port) :
    (s.loseOut p).requests = s.requests := by cases p <;> rfl
@[simp] theorem State.loseOut_rst (s : State) (p : Port) :
    (s.loseOut p).rst = s.rst := by cases p <;> rfl
@[simp] theorem State.loseOut_trace (s : State) (p : Port) :
    (s.loseOut p).trace = s.trace := by cases p <;> rfl
@[simp] theorem State.loseOut_responses (s : State) (p : Port) :
    (s.loseOut p).responses = s.responses := by cases p <;> rfl
@[simp] theorem State.loseOut_free (s : State) (p : Port) :
    (s.loseOut p).free = s.free + 1 := by cases p <;> rfl

@[simp] theorem State.setOut_p0_port0 (s : State) (v : Byte) :
    (s.setOut .p0 v).port0 = { s.port0 with out := v } := rfl

@[simp] theorem State.setOut_p0_port1 (s : State) (v : Byte) : (s.setOut .p0 v).port1 = s.port1 := rfl

@[simp] theorem State.setOut_p1_port0 (s : State) (v : Byte) : (s.setOut .p1 v).port0 = s.port0 := rfl

@[simp] theorem State.setOut_p1_port1 (s : State) (v : Byte) :
    (s.setOut .p1 v).port1 = { s.port1 with out := v } := rfl

theorem State.port_setOut (s : State) (p q : Port) (v : Byte) :
    (s.setOut p v).port q = if q = p then { s.port p with out := v } else s.port q := by
  simp [State.setOut, State.port_setPort]

theorem State.port_setOutput (s : State) (p q : Port) :
    (s.setOutput p).port q = if q = p then { s.port p with dir := .output } else s.port q := by
  simp [State.setOutput, State.port_setPort]

theorem State.port_loseOut (s : State) (p q : Port) :
    (s.loseOut p).port q =
      if q = p then { s.port p with out := Config.freePins s.free } else s.port q := by
  cases p <;> cases q <;> rfl

/-! ## forgetPorts -/

@[simp] theorem State.forgetPorts_cfg (s : State) :
    s.forgetPorts.cfg = s.cfg := rfl
@[simp] theorem State.forgetPorts_fail (s : State) :
    s.forgetPorts.fail = s.fail := rfl
@[simp] theorem State.forgetPorts_err (s : State) :
    s.forgetPorts.err = s.err := rfl
@[simp] theorem State.forgetPorts_addr (s : State) :
    s.forgetPorts.addr = s.addr := rfl
@[simp] theorem State.forgetPorts_path (s : State) :
    s.forgetPorts.path = s.path := rfl
@[simp] theorem State.forgetPorts_seq (s : State) :
    s.forgetPorts.seq = s.seq := rfl
@[simp] theorem State.forgetPorts_latches (s : State) :
    s.forgetPorts.latches = s.latches := rfl
@[simp] theorem State.forgetPorts_port0 (s : State) :
    s.forgetPorts.port0 = { out := Config.freePins s.free, dir := .unknown } := rfl
@[simp] theorem State.forgetPorts_port1 (s : State) :
    s.forgetPorts.port1 = { out := Config.freePins (s.free + 1), dir := .unknown } := rfl
@[simp] theorem State.forgetPorts_busLost (s : State) :
    s.forgetPorts.busLost = true := rfl
@[simp] theorem State.forgetPorts_adapterErr (s : State) :
    s.forgetPorts.adapterErr = s.adapterErr := rfl
@[simp] theorem State.forgetPorts_answers (s : State) :
    s.forgetPorts.answers = s.answers := rfl
@[simp] theorem State.forgetPorts_elapsed (s : State) :
    s.forgetPorts.elapsed = s.elapsed := rfl
@[simp] theorem State.forgetPorts_requests (s : State) :
    s.forgetPorts.requests = s.requests := rfl
@[simp] theorem State.forgetPorts_rst (s : State) :
    s.forgetPorts.rst = s.rst := rfl
@[simp] theorem State.forgetPorts_trace (s : State) :
    s.forgetPorts.trace = s.trace := rfl
@[simp] theorem State.forgetPorts_responses (s : State) :
    s.forgetPorts.responses = s.responses := rfl
@[simp] theorem State.forgetPorts_free (s : State) :
    s.forgetPorts.free = s.free + 2 := rfl

/-! ## logEvent -/

@[simp] theorem State.logEvent_cfg (s : State) (m : MicroOp) (a : Answer) :
    (s.logEvent m a).cfg = s.cfg := rfl
@[simp] theorem State.logEvent_fail (s : State) (m : MicroOp) (a : Answer) :
    (s.logEvent m a).fail = s.fail := rfl
@[simp] theorem State.logEvent_err (s : State) (m : MicroOp) (a : Answer) :
    (s.logEvent m a).err = s.err := rfl
@[simp] theorem State.logEvent_addr (s : State) (m : MicroOp) (a : Answer) :
    (s.logEvent m a).addr = s.addr := rfl
@[simp] theorem State.logEvent_path (s : State) (m : MicroOp) (a : Answer) :
    (s.logEvent m a).path = s.path := rfl
@[simp] theorem State.logEvent_seq (s : State) (m : MicroOp) (a : Answer) :
    (s.logEvent m a).seq = s.seq := rfl
@[simp] theorem State.logEvent_latches (s : State) (m : MicroOp) (a : Answer) :
    (s.logEvent m a).latches = s.latches := rfl
@[simp] theorem State.logEvent_port0 (s : State) (m : MicroOp) (a : Answer) :
    (s.logEvent m a).port0 = s.port0 := rfl
@[simp] theorem State.logEvent_port1 (s : State) (m : MicroOp) (a : Answer) :
    (s.logEvent m a).port1 = s.port1 := rfl
@[simp] theorem State.logEvent_busLost (s : State) (m : MicroOp) (a : Answer) :
    (s.logEvent m a).busLost = s.busLost := rfl
@[simp] theorem State.logEvent_adapterErr (s : State) (m : MicroOp) (a : Answer) :
    (s.logEvent m a).adapterErr = s.adapterErr := rfl
@[simp] theorem State.logEvent_answers (s : State) (m : MicroOp) (a : Answer) :
    (s.logEvent m a).answers = s.answers := rfl
@[simp] theorem State.logEvent_elapsed (s : State) (m : MicroOp) (a : Answer) :
    (s.logEvent m a).elapsed = s.elapsed := rfl
@[simp] theorem State.logEvent_requests (s : State) (m : MicroOp) (a : Answer) :
    (s.logEvent m a).requests = s.requests := rfl
@[simp] theorem State.logEvent_rst (s : State) (m : MicroOp) (a : Answer) :
    (s.logEvent m a).rst = s.rst := rfl
@[simp] theorem State.logEvent_trace (s : State) (m : MicroOp) (a : Answer) :
    (s.logEvent m a).trace = s.trace ++ [{ op := m, answer := a, addr := s.addr, path := s.path }] := rfl
@[simp] theorem State.logEvent_responses (s : State) (m : MicroOp) (a : Answer) :
    (s.logEvent m a).responses = s.responses := rfl
@[simp] theorem State.logEvent_free (s : State) (m : MicroOp) (a : Answer) :
    (s.logEvent m a).free = s.free := rfl
@[simp] theorem State.logEvent_port (s : State) (m : MicroOp) (a : Answer) (q : Port) :
    (s.logEvent m a).port q = s.port q := rfl

/-! ## respond -/

@[simp] theorem State.respond_cfg (s : State) (c : RespCode) (v : RespValue) :
    (s.respond c v).cfg = s.cfg := rfl
@[simp] theorem State.respond_fail (s : State) (c : RespCode) (v : RespValue) :
    (s.respond c v).fail = s.fail := rfl
@[simp] theorem State.respond_err (s : State) (c : RespCode) (v : RespValue) :
    (s.respond c v).err = s.err := rfl
@[simp] theorem State.respond_addr (s : State) (c : RespCode) (v : RespValue) :
    (s.respond c v).addr = s.addr := rfl
@[simp] theorem State.respond_path (s : State) (c : RespCode) (v : RespValue) :
    (s.respond c v).path = s.path := rfl
@[simp] theorem State.respond_seq (s : State) (c : RespCode) (v : RespValue) :
    (s.respond c v).seq = s.seq := rfl
@[simp] theorem State.respond_latches (s : State) (c : RespCode) (v : RespValue) :
    (s.respond c v).latches = s.latches := rfl
@[simp] theorem State.respond_port0 (s : State) (c : RespCode) (v : RespValue) :
    (s.respond c v).port0 = s.port0 := rfl
@[simp] theorem State.respond_port1 (s : State) (c : RespCode) (v : RespValue) :
    (s.respond c v).port1 = s.port1 := rfl
@[simp] theorem State.respond_busLost (s : State) (c : RespCode) (v : RespValue) :
    (s.respond c v).busLost = s.busLost := rfl
@[simp] theorem State.respond_adapterErr (s : State) (c : RespCode) (v : RespValue) :
    (s.respond c v).adapterErr = s.adapterErr := rfl
@[simp] theorem State.respond_answers (s : State) (c : RespCode) (v : RespValue) :
    (s.respond c v).answers = s.answers := rfl
@[simp] theorem State.respond_elapsed (s : State) (c : RespCode) (v : RespValue) :
    (s.respond c v).elapsed = s.elapsed := rfl
@[simp] theorem State.respond_requests (s : State) (c : RespCode) (v : RespValue) :
    (s.respond c v).requests = s.requests := rfl
@[simp] theorem State.respond_rst (s : State) (c : RespCode) (v : RespValue) :
    (s.respond c v).rst = s.rst := rfl
@[simp] theorem State.respond_trace (s : State) (c : RespCode) (v : RespValue) :
    (s.respond c v).trace = s.trace := rfl
@[simp] theorem State.respond_responses (s : State) (c : RespCode) (v : RespValue) :
    (s.respond c v).responses = s.responses ++ [{ code := c, value := v }] := rfl
@[simp] theorem State.respond_free (s : State) (c : RespCode) (v : RespValue) :
    (s.respond c v).free = s.free := rfl
@[simp] theorem State.respond_port (s : State) (c : RespCode) (v : RespValue) (q : Port) :
    (s.respond c v).port q = s.port q := rfl

/-! ## toIdle -/

@[simp] theorem State.toIdle_cfg (s : State) :
    s.toIdle.cfg = s.cfg := rfl
@[simp] theorem State.toIdle_fail (s : State) :
    s.toIdle.fail = s.fail := rfl
@[simp] theorem State.toIdle_err (s : State) :
    s.toIdle.err = s.err := rfl
@[simp] theorem State.toIdle_addr (s : State) :
    s.toIdle.addr = s.addr := rfl
@[simp] theorem State.toIdle_path (s : State) :
    s.toIdle.path = s.path := rfl
@[simp] theorem State.toIdle_seq (s : State) :
    s.toIdle.seq = .idle := rfl
@[simp] theorem State.toIdle_latches (s : State) :
    s.toIdle.latches = Latches.empty := rfl
@[simp] theorem State.toIdle_port0 (s : State) :
    s.toIdle.port0 = s.port0 := rfl
@[simp] theorem State.toIdle_port1 (s : State) :
    s.toIdle.port1 = s.port1 := rfl
@[simp] theorem State.toIdle_busLost (s : State) :
    s.toIdle.busLost = s.busLost := rfl
@[simp] theorem State.toIdle_adapterErr (s : State) :
    s.toIdle.adapterErr = s.adapterErr := rfl
@[simp] theorem State.toIdle_answers (s : State) :
    s.toIdle.answers = s.answers := rfl
@[simp] theorem State.toIdle_elapsed (s : State) :
    s.toIdle.elapsed = s.elapsed := rfl
@[simp] theorem State.toIdle_requests (s : State) :
    s.toIdle.requests = s.requests := rfl
@[simp] theorem State.toIdle_rst (s : State) :
    s.toIdle.rst = s.rst := rfl
@[simp] theorem State.toIdle_trace (s : State) :
    s.toIdle.trace = s.trace := rfl
@[simp] theorem State.toIdle_responses (s : State) :
    s.toIdle.responses = s.responses := rfl
@[simp] theorem State.toIdle_free (s : State) :
    s.toIdle.free = s.free := rfl
@[simp] theorem State.toIdle_port (s : State) (q : Port) :
    s.toIdle.port q = s.port q := rfl

/-! ## recordFailure -/

@[simp] theorem State.recordFailure_cfg (s : State) (k : FailureKind) (msg : List Byte) :
    (s.recordFailure k msg).cfg = s.cfg := rfl
@[simp] theorem State.recordFailure_fail (s : State) (k : FailureKind) (msg : List Byte) :
    (s.recordFailure k msg).fail = true := rfl
@[simp] theorem State.recordFailure_err (s : State) (k : FailureKind) (msg : List Byte) :
    (s.recordFailure k msg).err = { kind := k, text := msg } := rfl
@[simp] theorem State.recordFailure_addr (s : State) (k : FailureKind) (msg : List Byte) :
    (s.recordFailure k msg).addr = s.addr := rfl
@[simp] theorem State.recordFailure_path (s : State) (k : FailureKind) (msg : List Byte) :
    (s.recordFailure k msg).path = s.path := rfl
@[simp] theorem State.recordFailure_seq (s : State) (k : FailureKind) (msg : List Byte) :
    (s.recordFailure k msg).seq = s.seq := rfl
@[simp] theorem State.recordFailure_latches (s : State) (k : FailureKind) (msg : List Byte) :
    (s.recordFailure k msg).latches = s.latches := rfl
@[simp] theorem State.recordFailure_port0 (s : State) (k : FailureKind) (msg : List Byte) :
    (s.recordFailure k msg).port0 = s.port0 := rfl
@[simp] theorem State.recordFailure_port1 (s : State) (k : FailureKind) (msg : List Byte) :
    (s.recordFailure k msg).port1 = s.port1 := rfl
@[simp] theorem State.recordFailure_busLost (s : State) (k : FailureKind) (msg : List Byte) :
    (s.recordFailure k msg).busLost = s.busLost := rfl
@[simp] theorem State.recordFailure_adapterErr (s : State) (k : FailureKind) (msg : List Byte) :
    (s.recordFailure k msg).adapterErr = s.adapterErr := rfl
@[simp] theorem State.recordFailure_answers (s : State) (k : FailureKind) (msg : List Byte) :
    (s.recordFailure k msg).answers = s.answers := rfl
@[simp] theorem State.recordFailure_elapsed (s : State) (k : FailureKind) (msg : List Byte) :
    (s.recordFailure k msg).elapsed = s.elapsed := rfl
@[simp] theorem State.recordFailure_requests (s : State) (k : FailureKind) (msg : List Byte) :
    (s.recordFailure k msg).requests = s.requests := rfl
@[simp] theorem State.recordFailure_rst (s : State) (k : FailureKind) (msg : List Byte) :
    (s.recordFailure k msg).rst = s.rst := rfl
@[simp] theorem State.recordFailure_trace (s : State) (k : FailureKind) (msg : List Byte) :
    (s.recordFailure k msg).trace = s.trace := rfl
@[simp] theorem State.recordFailure_responses (s : State) (k : FailureKind) (msg : List Byte) :
    (s.recordFailure k msg).responses = s.responses := rfl
@[simp] theorem State.recordFailure_free (s : State) (k : FailureKind) (msg : List Byte) :
    (s.recordFailure k msg).free = s.free := rfl
@[simp] theorem State.recordFailure_port (s : State) (k : FailureKind) (msg : List Byte) (q : Port) :
    (s.recordFailure k msg).port q = s.port q := rfl

/-! ## complete -/

@[simp] theorem State.complete_cfg (s : State) (v : RespValue) :
    (s.complete v).cfg = s.cfg := rfl
@[simp] theorem State.complete_fail (s : State) (v : RespValue) :
    (s.complete v).fail = s.fail := rfl
@[simp] theorem State.complete_err (s : State) (v : RespValue) :
    (s.complete v).err = s.err := rfl
@[simp] theorem State.complete_addr (s : State) (v : RespValue) :
    (s.complete v).addr = s.addr := rfl
@[simp] theorem State.complete_path (s : State) (v : RespValue) :
    (s.complete v).path = s.path := rfl
@[simp] theorem State.complete_seq (s : State) (v : RespValue) :
    (s.complete v).seq = .idle := rfl
@[simp] theorem State.complete_latches (s : State) (v : RespValue) :
    (s.complete v).latches = Latches.empty := rfl
@[simp] theorem State.complete_port0 (s : State) (v : RespValue) :
    (s.complete v).port0 = s.port0 := rfl
@[simp] theorem State.complete_port1 (s : State) (v : RespValue) :
    (s.complete v).port1 = s.port1 := rfl
@[simp] theorem State.complete_busLost (s : State) (v : RespValue) :
    (s.complete v).busLost = s.busLost := rfl
@[simp] theorem State.complete_adapterErr (s : State) (v : RespValue) :
    (s.complete v).adapterErr = s.adapterErr := rfl
@[simp] theorem State.complete_answers (s : State) (v : RespValue) :
    (s.complete v).answers = s.answers := rfl
@[simp] theorem State.complete_elapsed (s : State) (v : RespValue) :
    (s.complete v).elapsed = s.elapsed := rfl
@[simp] theorem State.complete_requests (s : State) (v : RespValue) :
    (s.complete v).requests = s.requests := rfl
@[simp] theorem State.complete_rst (s : State) (v : RespValue) :
    (s.complete v).rst = s.rst := rfl
@[simp] theorem State.complete_trace (s : State) (v : RespValue) :
    (s.complete v).trace = s.trace := rfl
@[simp] theorem State.complete_responses (s : State) (v : RespValue) :
    (s.complete v).responses = s.responses ++ [{ code := .ok, value := v }] := rfl
@[simp] theorem State.complete_free (s : State) (v : RespValue) :
    (s.complete v).free = s.free := rfl
@[simp] theorem State.complete_port (s : State) (v : RespValue) (q : Port) :
    (s.complete v).port q = s.port q := rfl

/-! ## raiseFailure -/

@[simp] theorem State.raiseFailure_cfg (s : State) (k : FailureKind) (msg : List Byte) :
    (s.raiseFailure k msg).cfg = s.cfg := rfl
@[simp] theorem State.raiseFailure_fail (s : State) (k : FailureKind) (msg : List Byte) :
    (s.raiseFailure k msg).fail = true := rfl
@[simp] theorem State.raiseFailure_err (s : State) (k : FailureKind) (msg : List Byte) :
    (s.raiseFailure k msg).err = { kind := k, text := msg } := rfl
@[simp] theorem State.raiseFailure_addr (s : State) (k : FailureKind) (msg : List Byte) :
    (s.raiseFailure k msg).addr = s.addr := rfl
@[simp] theorem State.raiseFailure_path (s : State) (k : FailureKind) (msg : List Byte) :
    (s.raiseFailure k msg).path = s.path := rfl
@[simp] theorem State.raiseFailure_seq (s : State) (k : FailureKind) (msg : List Byte) :
    (s.raiseFailure k msg).seq = .idle := rfl
@[simp] theorem State.raiseFailure_latches (s : State) (k : FailureKind) (msg : List Byte) :
    (s.raiseFailure k msg).latches = Latches.empty := rfl
@[simp] theorem State.raiseFailure_port0 (s : State) (k : FailureKind) (msg : List Byte) :
    (s.raiseFailure k msg).port0 = s.port0 := rfl
@[simp] theorem State.raiseFailure_port1 (s : State) (k : FailureKind) (msg : List Byte) :
    (s.raiseFailure k msg).port1 = s.port1 := rfl
@[simp] theorem State.raiseFailure_busLost (s : State) (k : FailureKind) (msg : List Byte) :
    (s.raiseFailure k msg).busLost = s.busLost := rfl
@[simp] theorem State.raiseFailure_adapterErr (s : State) (k : FailureKind) (msg : List Byte) :
    (s.raiseFailure k msg).adapterErr = s.adapterErr := rfl
@[simp] theorem State.raiseFailure_answers (s : State) (k : FailureKind) (msg : List Byte) :
    (s.raiseFailure k msg).answers = s.answers := rfl
@[simp] theorem State.raiseFailure_elapsed (s : State) (k : FailureKind) (msg : List Byte) :
    (s.raiseFailure k msg).elapsed = s.elapsed := rfl
@[simp] theorem State.raiseFailure_requests (s : State) (k : FailureKind) (msg : List Byte) :
    (s.raiseFailure k msg).requests = s.requests := rfl
@[simp] theorem State.raiseFailure_rst (s : State) (k : FailureKind) (msg : List Byte) :
    (s.raiseFailure k msg).rst = s.rst := rfl
@[simp] theorem State.raiseFailure_trace (s : State) (k : FailureKind) (msg : List Byte) :
    (s.raiseFailure k msg).trace = s.trace := rfl
@[simp] theorem State.raiseFailure_responses (s : State) (k : FailureKind) (msg : List Byte) :
    (s.raiseFailure k msg).responses = s.responses ++ [{ code := .fail, value := .none }] := rfl
@[simp] theorem State.raiseFailure_free (s : State) (k : FailureKind) (msg : List Byte) :
    (s.raiseFailure k msg).free = s.free := rfl
@[simp] theorem State.raiseFailure_port (s : State) (k : FailureKind) (msg : List Byte) (q : Port) :
    (s.raiseFailure k msg).port q = s.port q := rfl

/-! ## atPosition -/

@[simp] theorem State.atPosition_cfg (s : State) (ops rest : List MicroOp) (i : Nat) :
    (s.atPosition ops i rest).cfg = s.cfg := rfl
@[simp] theorem State.atPosition_fail (s : State) (ops rest : List MicroOp) (i : Nat) :
    (s.atPosition ops i rest).fail = s.fail := rfl
@[simp] theorem State.atPosition_err (s : State) (ops rest : List MicroOp) (i : Nat) :
    (s.atPosition ops i rest).err = s.err := rfl
@[simp] theorem State.atPosition_addr (s : State) (ops rest : List MicroOp) (i : Nat) :
    (s.atPosition ops i rest).addr = s.addr := rfl
@[simp] theorem State.atPosition_path (s : State) (ops rest : List MicroOp) (i : Nat) :
    (s.atPosition ops i rest).path = s.path := rfl
@[simp] theorem State.atPosition_seq (s : State) (ops rest : List MicroOp) (i : Nat) :
    (s.atPosition ops i rest).seq = .run ops i := rfl
@[simp] theorem State.atPosition_latches (s : State) (ops rest : List MicroOp) (i : Nat) :
    (s.atPosition ops i rest).latches = s.latches.atStrobe s.cfg rest := rfl
@[simp] theorem State.atPosition_port0 (s : State) (ops rest : List MicroOp) (i : Nat) :
    (s.atPosition ops i rest).port0 = s.port0 := rfl
@[simp] theorem State.atPosition_port1 (s : State) (ops rest : List MicroOp) (i : Nat) :
    (s.atPosition ops i rest).port1 = s.port1 := rfl
@[simp] theorem State.atPosition_busLost (s : State) (ops rest : List MicroOp) (i : Nat) :
    (s.atPosition ops i rest).busLost = s.busLost := rfl
@[simp] theorem State.atPosition_adapterErr (s : State) (ops rest : List MicroOp) (i : Nat) :
    (s.atPosition ops i rest).adapterErr = s.adapterErr := rfl
@[simp] theorem State.atPosition_answers (s : State) (ops rest : List MicroOp) (i : Nat) :
    (s.atPosition ops i rest).answers = s.answers := rfl
@[simp] theorem State.atPosition_elapsed (s : State) (ops rest : List MicroOp) (i : Nat) :
    (s.atPosition ops i rest).elapsed = s.elapsed := rfl
@[simp] theorem State.atPosition_requests (s : State) (ops rest : List MicroOp) (i : Nat) :
    (s.atPosition ops i rest).requests = s.requests := rfl
@[simp] theorem State.atPosition_rst (s : State) (ops rest : List MicroOp) (i : Nat) :
    (s.atPosition ops i rest).rst = s.rst := rfl
@[simp] theorem State.atPosition_trace (s : State) (ops rest : List MicroOp) (i : Nat) :
    (s.atPosition ops i rest).trace = s.trace := rfl
@[simp] theorem State.atPosition_responses (s : State) (ops rest : List MicroOp) (i : Nat) :
    (s.atPosition ops i rest).responses = s.responses := rfl
@[simp] theorem State.atPosition_free (s : State) (ops rest : List MicroOp) (i : Nat) :
    (s.atPosition ops i rest).free = s.free := rfl
@[simp] theorem State.atPosition_port (s : State) (ops rest : List MicroOp) (i : Nat) (q : Port) :
    (s.atPosition ops i rest).port q = s.port q := rfl

/-! ## acceptRequest -/

@[simp] theorem State.acceptRequest_cfg (s : State) (rest : List Word) :
    (s.acceptRequest rest).cfg = s.cfg := rfl
@[simp] theorem State.acceptRequest_fail (s : State) (rest : List Word) :
    (s.acceptRequest rest).fail = s.fail := rfl
@[simp] theorem State.acceptRequest_err (s : State) (rest : List Word) :
    (s.acceptRequest rest).err = s.err := rfl
@[simp] theorem State.acceptRequest_addr (s : State) (rest : List Word) :
    (s.acceptRequest rest).addr = s.addr := rfl
@[simp] theorem State.acceptRequest_path (s : State) (rest : List Word) :
    (s.acceptRequest rest).path = s.path := rfl
@[simp] theorem State.acceptRequest_seq (s : State) (rest : List Word) :
    (s.acceptRequest rest).seq = s.seq := rfl
@[simp] theorem State.acceptRequest_latches (s : State) (rest : List Word) :
    (s.acceptRequest rest).latches = s.latches := rfl
@[simp] theorem State.acceptRequest_port0 (s : State) (rest : List Word) :
    (s.acceptRequest rest).port0 = s.port0 := rfl
@[simp] theorem State.acceptRequest_port1 (s : State) (rest : List Word) :
    (s.acceptRequest rest).port1 = s.port1 := rfl
@[simp] theorem State.acceptRequest_busLost (s : State) (rest : List Word) :
    (s.acceptRequest rest).busLost = s.busLost := rfl
@[simp] theorem State.acceptRequest_adapterErr (s : State) (rest : List Word) :
    (s.acceptRequest rest).adapterErr = s.adapterErr := rfl
@[simp] theorem State.acceptRequest_answers (s : State) (rest : List Word) :
    (s.acceptRequest rest).answers = s.answers := rfl
@[simp] theorem State.acceptRequest_elapsed (s : State) (rest : List Word) :
    (s.acceptRequest rest).elapsed = s.elapsed := rfl
@[simp] theorem State.acceptRequest_requests (s : State) (rest : List Word) :
    (s.acceptRequest rest).requests = rest := rfl
@[simp] theorem State.acceptRequest_rst (s : State) (rest : List Word) :
    (s.acceptRequest rest).rst = s.rst := rfl
@[simp] theorem State.acceptRequest_trace (s : State) (rest : List Word) :
    (s.acceptRequest rest).trace = s.trace := rfl
@[simp] theorem State.acceptRequest_responses (s : State) (rest : List Word) :
    (s.acceptRequest rest).responses = s.responses := rfl
@[simp] theorem State.acceptRequest_free (s : State) (rest : List Word) :
    (s.acceptRequest rest).free = s.free := rfl
@[simp] theorem State.acceptRequest_port (s : State) (rest : List Word) (q : Port) :
    (s.acceptRequest rest).port q = s.port q := rfl

/-! ## refuseRequest -/

@[simp] theorem State.refuseRequest_cfg (s : State) (rest : List Word) :
    (s.refuseRequest rest).cfg = s.cfg := rfl
@[simp] theorem State.refuseRequest_fail (s : State) (rest : List Word) :
    (s.refuseRequest rest).fail = s.fail := rfl
@[simp] theorem State.refuseRequest_err (s : State) (rest : List Word) :
    (s.refuseRequest rest).err = s.err := rfl
@[simp] theorem State.refuseRequest_addr (s : State) (rest : List Word) :
    (s.refuseRequest rest).addr = s.addr := rfl
@[simp] theorem State.refuseRequest_path (s : State) (rest : List Word) :
    (s.refuseRequest rest).path = s.path := rfl
@[simp] theorem State.refuseRequest_seq (s : State) (rest : List Word) :
    (s.refuseRequest rest).seq = s.seq := rfl
@[simp] theorem State.refuseRequest_latches (s : State) (rest : List Word) :
    (s.refuseRequest rest).latches = s.latches := rfl
@[simp] theorem State.refuseRequest_port0 (s : State) (rest : List Word) :
    (s.refuseRequest rest).port0 = s.port0 := rfl
@[simp] theorem State.refuseRequest_port1 (s : State) (rest : List Word) :
    (s.refuseRequest rest).port1 = s.port1 := rfl
@[simp] theorem State.refuseRequest_busLost (s : State) (rest : List Word) :
    (s.refuseRequest rest).busLost = s.busLost := rfl
@[simp] theorem State.refuseRequest_adapterErr (s : State) (rest : List Word) :
    (s.refuseRequest rest).adapterErr = s.adapterErr := rfl
@[simp] theorem State.refuseRequest_answers (s : State) (rest : List Word) :
    (s.refuseRequest rest).answers = s.answers := rfl
@[simp] theorem State.refuseRequest_elapsed (s : State) (rest : List Word) :
    (s.refuseRequest rest).elapsed = s.elapsed := rfl
@[simp] theorem State.refuseRequest_requests (s : State) (rest : List Word) :
    (s.refuseRequest rest).requests = rest := rfl
@[simp] theorem State.refuseRequest_rst (s : State) (rest : List Word) :
    (s.refuseRequest rest).rst = s.rst := rfl
@[simp] theorem State.refuseRequest_trace (s : State) (rest : List Word) :
    (s.refuseRequest rest).trace = s.trace := rfl
@[simp] theorem State.refuseRequest_responses (s : State) (rest : List Word) :
    (s.refuseRequest rest).responses = s.responses ++ [{ code := .refused, value := .none }] := rfl
@[simp] theorem State.refuseRequest_free (s : State) (rest : List Word) :
    (s.refuseRequest rest).free = s.free := rfl
@[simp] theorem State.refuseRequest_port (s : State) (rest : List Word) (q : Port) :
    (s.refuseRequest rest).port q = s.port q := rfl

/-! ## dropInFlight, resetPorts, resetEvent -/

@[simp] theorem State.dropInFlight_cfg (s : State) (m : MicroOp) :
    (s.dropInFlight m).cfg = s.cfg := by
  cases m <;> simp [State.dropInFlight]
@[simp] theorem State.dropInFlight_fail (s : State) (m : MicroOp) :
    (s.dropInFlight m).fail = s.fail := by
  cases m <;> simp [State.dropInFlight]
@[simp] theorem State.dropInFlight_err (s : State) (m : MicroOp) :
    (s.dropInFlight m).err = s.err := by
  cases m <;> simp [State.dropInFlight]
@[simp] theorem State.dropInFlight_addr (s : State) (m : MicroOp) :
    (s.dropInFlight m).addr = s.addr := by
  cases m <;> simp [State.dropInFlight]
@[simp] theorem State.dropInFlight_path (s : State) (m : MicroOp) :
    (s.dropInFlight m).path = s.path := by
  cases m <;> simp [State.dropInFlight]
@[simp] theorem State.dropInFlight_seq (s : State) (m : MicroOp) :
    (s.dropInFlight m).seq = s.seq := by
  cases m <;> simp [State.dropInFlight]
@[simp] theorem State.dropInFlight_latches (s : State) (m : MicroOp) :
    (s.dropInFlight m).latches = s.latches := by
  cases m <;> simp [State.dropInFlight]
@[simp] theorem State.dropInFlight_adapterErr (s : State) (m : MicroOp) :
    (s.dropInFlight m).adapterErr = s.adapterErr := by
  cases m <;> simp [State.dropInFlight]
@[simp] theorem State.dropInFlight_answers (s : State) (m : MicroOp) :
    (s.dropInFlight m).answers = s.answers := by
  cases m <;> simp [State.dropInFlight]
@[simp] theorem State.dropInFlight_elapsed (s : State) (m : MicroOp) :
    (s.dropInFlight m).elapsed = s.elapsed := by
  cases m <;> simp [State.dropInFlight]
@[simp] theorem State.dropInFlight_requests (s : State) (m : MicroOp) :
    (s.dropInFlight m).requests = s.requests := by
  cases m <;> simp [State.dropInFlight]
@[simp] theorem State.dropInFlight_rst (s : State) (m : MicroOp) :
    (s.dropInFlight m).rst = s.rst := by
  cases m <;> simp [State.dropInFlight]
@[simp] theorem State.dropInFlight_trace (s : State) (m : MicroOp) :
    (s.dropInFlight m).trace = s.trace := by
  cases m <;> simp [State.dropInFlight]
@[simp] theorem State.dropInFlight_responses (s : State) (m : MicroOp) :
    (s.dropInFlight m).responses = s.responses := by
  cases m <;> simp [State.dropInFlight]
@[simp] theorem State.dropInFlight_busLost (s : State) (m : MicroOp) :
    (s.dropInFlight m).busLost = s.busLost := by
  cases m <;> simp [State.dropInFlight]

/-- A dropped micro-operation leaves every port but the one it was addressed to. -/
theorem State.dropInFlight_port (s : State) (m : MicroOp) (p : Port)
    (h : m ≠ .mode p) (h' : ∀ v, m ≠ .wr p v) : (s.dropInFlight m).port p = s.port p := by
  cases m with
  | mode q => exact (State.port_loseOut s q p).trans (if_neg fun e => h (by rw [e]))
  | wr q v => exact (State.port_loseOut s q p).trans (if_neg fun e => h' v (by rw [e]))
  | wait c => rfl

theorem State.resetPorts_cases (s : State) :
    s.resetPorts = s.forgetPorts ∨ s.resetPorts = s ∨ ∃ m, s.resetPorts = s.dropInFlight m := by
  unfold State.resetPorts
  split
  · exact .inl rfl
  · split
    · split
      · exact .inr (.inr ⟨_, rfl⟩)
      · exact .inr (.inl rfl)
    · exact .inl rfl

@[simp] theorem State.resetPorts_cfg (s : State) :
    s.resetPorts.cfg = s.cfg := by
  rcases s.resetPorts_cases with e | e | ⟨m, e⟩ <;> rw [e] <;> simp
@[simp] theorem State.resetPorts_fail (s : State) :
    s.resetPorts.fail = s.fail := by
  rcases s.resetPorts_cases with e | e | ⟨m, e⟩ <;> rw [e] <;> simp
@[simp] theorem State.resetPorts_err (s : State) :
    s.resetPorts.err = s.err := by
  rcases s.resetPorts_cases with e | e | ⟨m, e⟩ <;> rw [e] <;> simp
@[simp] theorem State.resetPorts_addr (s : State) :
    s.resetPorts.addr = s.addr := by
  rcases s.resetPorts_cases with e | e | ⟨m, e⟩ <;> rw [e] <;> simp
@[simp] theorem State.resetPorts_path (s : State) :
    s.resetPorts.path = s.path := by
  rcases s.resetPorts_cases with e | e | ⟨m, e⟩ <;> rw [e] <;> simp
@[simp] theorem State.resetPorts_seq (s : State) :
    s.resetPorts.seq = s.seq := by
  rcases s.resetPorts_cases with e | e | ⟨m, e⟩ <;> rw [e] <;> simp
@[simp] theorem State.resetPorts_latches (s : State) :
    s.resetPorts.latches = s.latches := by
  rcases s.resetPorts_cases with e | e | ⟨m, e⟩ <;> rw [e] <;> simp
@[simp] theorem State.resetPorts_adapterErr (s : State) :
    s.resetPorts.adapterErr = s.adapterErr := by
  rcases s.resetPorts_cases with e | e | ⟨m, e⟩ <;> rw [e] <;> simp
@[simp] theorem State.resetPorts_answers (s : State) :
    s.resetPorts.answers = s.answers := by
  rcases s.resetPorts_cases with e | e | ⟨m, e⟩ <;> rw [e] <;> simp
@[simp] theorem State.resetPorts_elapsed (s : State) :
    s.resetPorts.elapsed = s.elapsed := by
  rcases s.resetPorts_cases with e | e | ⟨m, e⟩ <;> rw [e] <;> simp
@[simp] theorem State.resetPorts_requests (s : State) :
    s.resetPorts.requests = s.requests := by
  rcases s.resetPorts_cases with e | e | ⟨m, e⟩ <;> rw [e] <;> simp
@[simp] theorem State.resetPorts_rst (s : State) :
    s.resetPorts.rst = s.rst := by
  rcases s.resetPorts_cases with e | e | ⟨m, e⟩ <;> rw [e] <;> simp
@[simp] theorem State.resetPorts_trace (s : State) :
    s.resetPorts.trace = s.trace := by
  rcases s.resetPorts_cases with e | e | ⟨m, e⟩ <;> rw [e] <;> simp
@[simp] theorem State.resetPorts_responses (s : State) :
    s.resetPorts.responses = s.responses := by
  rcases s.resetPorts_cases with e | e | ⟨m, e⟩ <;> rw [e] <;> simp

/-! ## resetEvent -/

@[simp] theorem State.resetEvent_fail (s : State) :
    s.resetEvent.fail = false := rfl
@[simp] theorem State.resetEvent_err (s : State) :
    s.resetEvent.err = { kind := .none, text := [] } := rfl
@[simp] theorem State.resetEvent_addr (s : State) :
    s.resetEvent.addr = s.cfg.addrDefault := rfl
@[simp] theorem State.resetEvent_path (s : State) :
    s.resetEvent.path = s.cfg.pathDefault := rfl
@[simp] theorem State.resetEvent_seq (s : State) :
    s.resetEvent.seq = .idle := rfl
@[simp] theorem State.resetEvent_latches (s : State) :
    s.resetEvent.latches = Latches.empty := rfl
@[simp] theorem State.resetEvent_port0 (s : State) :
    s.resetEvent.port0 = s.resetPorts.port0 := rfl
@[simp] theorem State.resetEvent_port1 (s : State) :
    s.resetEvent.port1 = s.resetPorts.port1 := rfl
@[simp] theorem State.resetEvent_busLost (s : State) :
    s.resetEvent.busLost = true := rfl
@[simp] theorem State.resetEvent_rst (s : State) :
    s.resetEvent.rst = false := rfl
@[simp] theorem State.resetEvent_free (s : State) :
    s.resetEvent.free = s.resetPorts.free := rfl
@[simp] theorem State.resetEvent_cfg (s : State) :
    s.resetEvent.cfg = s.cfg := State.resetPorts_cfg s
@[simp] theorem State.resetEvent_adapterErr (s : State) :
    s.resetEvent.adapterErr = s.adapterErr := State.resetPorts_adapterErr s
@[simp] theorem State.resetEvent_answers (s : State) :
    s.resetEvent.answers = s.answers := State.resetPorts_answers s
@[simp] theorem State.resetEvent_elapsed (s : State) :
    s.resetEvent.elapsed = s.elapsed := State.resetPorts_elapsed s
@[simp] theorem State.resetEvent_requests (s : State) :
    s.resetEvent.requests = s.requests := State.resetPorts_requests s
@[simp] theorem State.resetEvent_trace (s : State) :
    s.resetEvent.trace = s.trace := State.resetPorts_trace s
@[simp] theorem State.resetEvent_responses (s : State) :
    s.resetEvent.responses = s.responses := State.resetPorts_responses s

/-! ## setEndpoint -/

@[simp] theorem State.setEndpoint_cfg (s : State) (a : Int) (p : List Byte) :
    (s.setEndpoint a p).cfg = s.cfg := by
  unfold State.setEndpoint; split <;> rfl
@[simp] theorem State.setEndpoint_fail (s : State) (a : Int) (p : List Byte) :
    (s.setEndpoint a p).fail = s.fail := by
  unfold State.setEndpoint; split <;> rfl
@[simp] theorem State.setEndpoint_err (s : State) (a : Int) (p : List Byte) :
    (s.setEndpoint a p).err = s.err := by
  unfold State.setEndpoint; split <;> rfl
@[simp] theorem State.setEndpoint_seq (s : State) (a : Int) (p : List Byte) :
    (s.setEndpoint a p).seq = s.seq := by
  unfold State.setEndpoint; split <;> rfl
@[simp] theorem State.setEndpoint_latches (s : State) (a : Int) (p : List Byte) :
    (s.setEndpoint a p).latches = s.latches := by
  unfold State.setEndpoint; split <;> rfl
@[simp] theorem State.setEndpoint_adapterErr (s : State) (a : Int) (p : List Byte) :
    (s.setEndpoint a p).adapterErr = s.adapterErr := by
  unfold State.setEndpoint; split <;> rfl
@[simp] theorem State.setEndpoint_answers (s : State) (a : Int) (p : List Byte) :
    (s.setEndpoint a p).answers = s.answers := by
  unfold State.setEndpoint; split <;> rfl
@[simp] theorem State.setEndpoint_elapsed (s : State) (a : Int) (p : List Byte) :
    (s.setEndpoint a p).elapsed = s.elapsed := by
  unfold State.setEndpoint; split <;> rfl
@[simp] theorem State.setEndpoint_requests (s : State) (a : Int) (p : List Byte) :
    (s.setEndpoint a p).requests = s.requests := by
  unfold State.setEndpoint; split <;> rfl
@[simp] theorem State.setEndpoint_rst (s : State) (a : Int) (p : List Byte) :
    (s.setEndpoint a p).rst = s.rst := by
  unfold State.setEndpoint; split <;> rfl
@[simp] theorem State.setEndpoint_trace (s : State) (a : Int) (p : List Byte) :
    (s.setEndpoint a p).trace = s.trace := by
  unfold State.setEndpoint; split <;> rfl
@[simp] theorem State.setEndpoint_responses (s : State) (a : Int) (p : List Byte) :
    (s.setEndpoint a p).responses = s.responses := by
  unfold State.setEndpoint; split <;> rfl

@[simp] theorem State.setEndpoint_addr (s : State) (a : Int) (p : List Byte) :
    (s.setEndpoint a p).addr = a := by
  unfold State.setEndpoint; split <;> simp_all

@[simp] theorem State.setEndpoint_path (s : State) (a : Int) (p : List Byte) :
    (s.setEndpoint a p).path = p := by
  unfold State.setEndpoint; split <;> simp_all

theorem State.setEndpoint_same (s : State) : s.setEndpoint s.addr s.path = s := by
  simp [State.setEndpoint]

theorem State.setEndpoint_other (s : State) (a : Int) (p : List Byte) (h : ¬(a = s.addr ∧ p = s.path)) :
    s.setEndpoint a p = { s.forgetPorts with addr := a, path := p } := by
  simp [State.setEndpoint, h]

theorem Latches.atStrobe_atStrobe (cfg : Params) (rest : List MicroOp) (l : Latches) :
    (l.atStrobe cfg rest).atStrobe cfg rest = l.atStrobe cfg rest := by
  unfold Latches.atStrobe
  split <;> rfl

theorem State.atPosition_atPosition (s : State) (ops rest : List MicroOp) (i : Nat) :
    (s.atPosition ops i rest).atPosition ops i rest = s.atPosition ops i rest := by
  simp [State.atPosition, Latches.atStrobe_atStrobe]

end Sys2Proof.Machine
end

