-- ==== Sys2Proof/Laws/Run.lean ====
section
/-! SUPPORT. What the run loop can do, said once: it completes when every call is answered ok and every WAIT has
run out, it fails at the first call answered fail, it waits at the first call not answered or WAIT not run out; and
what no run changes. -/

namespace Sys2Proof.Machine

/-! ## One micro-operation -/

theorem perform_wait_done (c : DelayClass) (s : State) (n : Nat) (h : s.elapsed = n + 1) :
    perform (.wait c) s = .done (({ s with elapsed := n } : State).logEvent (.wait c) .ok) := by
  simp [perform, delay, h]

theorem perform_mode_ok (p : Port) (s : State) (as : List Answer) (h : s.answers = .ok :: as) :
    perform (.mode p) s =
      .done ((({ s with answers := as, busLost := false } : State).setOutput p).loseOut p |>.logEvent (.mode p) .ok) := by
  simp [perform, portMode, h]

theorem perform_wr_ok (p : Port) (v : Byte) (s : State) (as : List Answer)
    (h : s.answers = .ok :: as) :
    perform (.wr p v) s =
      .done (({ s with answers := as } : State).setOut p v |>.logEvent (.wr p v) .ok) := by
  simp [perform, portWrite, h]

theorem perform_port_fail (m : MicroOp) (hm : m.isPort = true) (s : State) (msg : List Byte)
    (as : List Answer) (h : s.answers = .fail msg :: as) :
    ∃ p, perform m s = .failed
      (({ s with answers := as, adapterErr := msg, busLost := true } : State).loseOut p |>.logEvent m (.fail msg)) := by
  cases m with
  | mode p => exact ⟨p, by simp [perform, portMode, h]⟩
  | wr p v => exact ⟨p, by simp [perform, portWrite, h]⟩
  | wait c => simp [MicroOp.isPort] at hm

theorem perform_pending (m : MicroOp) (s : State) (h : cannotEnd m s.answers s.elapsed) :
    perform m s = .pending := by
  cases m with
  | mode p => simp_all [perform, portMode, cannotEnd, MicroOp.isPort]
  | wr p v => simp_all [perform, portWrite, cannotEnd, MicroOp.isPort]
  | wait c => simp_all [perform, delay, cannotEnd, MicroOp.isPort]

/-- `perform_cases` says everything the outcomes of one micro-operation can be. -/
theorem perform_cases (m : MicroOp) (s : State) :
    (∃ c n, m = .wait c ∧ s.elapsed = n + 1 ∧ perform m s =
      .done (({ s with elapsed := n } : State).logEvent m .ok)) ∨
    (∃ p as, m = .mode p ∧ s.answers = .ok :: as ∧ perform m s =
      .done ((({ s with answers := as, busLost := false } : State).setOutput p).loseOut p |>.logEvent m .ok)) ∨
    (∃ p v as, m = .wr p v ∧ s.answers = .ok :: as ∧ perform m s =
      .done (({ s with answers := as } : State).setOut p v |>.logEvent m .ok)) ∨
    (∃ p msg as, (m = .mode p ∨ ∃ v, m = .wr p v) ∧ s.answers = .fail msg :: as ∧
      perform m s = .failed
        (({ s with answers := as, adapterErr := msg, busLost := true } : State).loseOut p |>.logEvent m (.fail msg))) ∨
    (cannotEnd m s.answers s.elapsed ∧ perform m s = .pending) := by
  cases m with
  | wait c =>
    rcases h : s.elapsed with _ | n
    · exact .inr (.inr (.inr (.inr ⟨.inr ⟨rfl, rfl⟩, by simp [perform, delay, h]⟩)))
    · exact .inl ⟨c, n, rfl, rfl, by simp [perform, delay, h]⟩
  | mode p =>
    rcases h : s.answers with _ | ⟨_ | msg, as⟩
    · exact .inr (.inr (.inr (.inr ⟨.inl ⟨rfl, rfl⟩, by simp [perform, portMode, h]⟩)))
    · exact .inr (.inl ⟨p, as, rfl, rfl, by simp [perform, portMode, h]⟩)
    · exact .inr (.inr (.inr (.inl ⟨p, msg, as, .inl rfl, rfl, by simp [perform, portMode, h]⟩)))
  | wr p v =>
    rcases h : s.answers with _ | ⟨_ | msg, as⟩
    · exact .inr (.inr (.inr (.inr ⟨.inl ⟨rfl, rfl⟩, by simp [perform, portWrite, h]⟩)))
    · exact .inr (.inr (.inl ⟨p, v, as, rfl, rfl, by simp [perform, portWrite, h]⟩))
    · exact .inr (.inr (.inr (.inl
        ⟨p, msg, as, .inr ⟨v, rfl⟩, rfl, by simp [perform, portWrite, h]⟩)))

/-! ## The loop -/

theorem runFrom_nil (ops : List MicroOp) (i : Nat) (s : State) :
    runFrom ops i [] s = s.complete .none := rfl

theorem runFrom_done {m : MicroOp} {s s' : State} {ops : List MicroOp} {i : Nat} {rest : List MicroOp}
    (h : perform m (s.atPosition ops i (m :: rest)) = .done s') :
    runFrom ops i (m :: rest) s = runFrom ops (i + 1) rest s' := by
  simp [runFrom, h]

theorem runFrom_failed {m : MicroOp} {s s' : State} {ops : List MicroOp} {i : Nat} {rest : List MicroOp}
    (h : perform m (s.atPosition ops i (m :: rest)) = .failed s') :
    runFrom ops i (m :: rest) s = s'.raiseFailure .transport s'.lastError := by
  simp [runFrom, h]

theorem runFrom_pending {m : MicroOp} {s : State} {ops : List MicroOp} {i : Nat} {rest : List MicroOp}
    (h : perform m (s.atPosition ops i (m :: rest)) = .pending) :
    runFrom ops i (m :: rest) s = s.atPosition ops i (m :: rest) := by
  simp [runFrom, h]

/-- The invariant-carrying induction: what holds of the state before the loop, is kept by taking a position and by a
micro-operation answered ok, and leads to `Q` by each of the three endings, gives `Q` of the loop's result. -/
theorem runFrom_induction (P Q : State → Prop) (ops : List MicroOp)
    (hpos : ∀ s i rest, P s → P (s.atPosition ops i rest))
    (hdone : ∀ m s s', P s → perform m s = .done s' → P s')
    (hend : ∀ s, P s → Q (s.complete .none))
    (hfail : ∀ m s s', P s → perform m s = .failed s' → Q (s'.raiseFailure .transport s'.lastError))
    (hwait : ∀ m s i rest, P s → Q (s.atPosition ops i (m :: rest))) :
    ∀ (rest : List MicroOp) (i : Nat) (s : State), P s → Q (runFrom ops i rest s)
  | [], i, s, h => hend s h
  | m :: rest, i, s, h => by
    have hp := hpos s i (m :: rest) h
    rcases hr : perform m (s.atPosition ops i (m :: rest)) with s' | s' | _
    · rw [runFrom_done hr]
      exact runFrom_induction P Q ops hpos hdone hend hfail hwait rest (i + 1) s' (hdone m _ _ hp hr)
    · rw [runFrom_failed hr]
      exact hfail m _ _ hp hr
    · rw [runFrom_pending hr]
      exact hwait m s i rest h

/-- What no run changes: the parameters, ADDR, PATH, the words at the request interface and the reset input. -/
theorem runFrom_frame (ops rest : List MicroOp) (i : Nat) (s : State) :
    (runFrom ops i rest s).cfg = s.cfg ∧ (runFrom ops i rest s).addr = s.addr ∧
    (runFrom ops i rest s).path = s.path ∧ (runFrom ops i rest s).requests = s.requests ∧
    (runFrom ops i rest s).rst = s.rst := by
  refine runFrom_induction
    (fun t => t.cfg = s.cfg ∧ t.addr = s.addr ∧ t.path = s.path ∧ t.requests = s.requests ∧ t.rst = s.rst)
    (fun t => t.cfg = s.cfg ∧ t.addr = s.addr ∧ t.path = s.path ∧ t.requests = s.requests ∧ t.rst = s.rst)
    ops ?_ ?_ ?_ ?_ ?_ rest i s ⟨rfl, rfl, rfl, rfl, rfl⟩
  · intro t i rest h; simpa using h
  · intro m t t' h hr
    rcases perform_cases m t with
      ⟨_, _, _, _, e⟩ | ⟨_, _, _, _, e⟩ | ⟨_, _, _, _, _, e⟩ | ⟨_, _, _, _, _, e⟩ | ⟨_, e⟩ <;>
      rw [hr] at e <;> cases e <;> simpa using h
  · intro t h; simpa using h
  · intro m t t' h hr
    rcases perform_cases m t with
      ⟨_, _, _, _, e⟩ | ⟨_, _, _, _, e⟩ | ⟨_, _, _, _, _, e⟩ | ⟨_, _, _, _, _, e⟩ | ⟨_, e⟩ <;>
      rw [hr] at e <;> cases e <;> simpa using h
  · intro m t i rest h; simpa using h

/-! ## Every call answered ok -/

theorem portCount_cons (m : MicroOp) (r : List MicroOp) :
    portCount (m :: r) = portCount r + if m.isPort then 1 else 0 := by
  cases m <;> rfl

@[simp] theorem portCount_append (a b : List MicroOp) : portCount (a ++ b) = portCount a + portCount b := by
  induction a with
  | nil => simp [portCount]
  | cons m a ih => simp only [List.cons_append, portCount_cons, ih]; omega

@[simp] theorem modeCount_append (a b : List MicroOp) : modeCount (a ++ b) = modeCount a + modeCount b := by
  induction a with
  | nil => simp [modeCount]
  | cons m a ih => cases m <;> (simp only [List.cons_append, modeCount, ih]; try omega)

@[simp] theorem writeCount_append (a b : List MicroOp) :
    writeCount (a ++ b) = writeCount a + writeCount b := by
  induction a with
  | nil => simp [writeCount]
  | cons m a ih => cases m <;> (simp only [List.cons_append, writeCount, ih]; try omega)

@[simp] theorem leastTimeUs_append (cfg : Params) (a b : List MicroOp) :
    leastTimeUs cfg (a ++ b) = leastTimeUs cfg a + leastTimeUs cfg b := by
  induction a with
  | nil => simp [leastTimeUs]
  | cons m a ih => cases m <;> (simp only [List.cons_append, leastTimeUs, ih]; try omega)

theorem lastWrite_append (p : Port) (a b : List MicroOp) (v : Byte) :
    lastWrite p (a ++ b) v = lastWrite p b (lastWrite p a v) := by
  induction a generalizing v with
  | nil => rfl
  | cons m a ih => cases m <;> simp only [List.cons_append, lastWrite, ih]

@[simp] theorem waitCount_append (a b : List MicroOp) : waitCount (a ++ b) = waitCount a + waitCount b := by
  induction a with
  | nil => simp [waitCount]
  | cons m a ih => cases m <;> (simp only [List.cons_append, waitCount, ih]; try omega)

theorem isPort_false {m : MicroOp} (h : m.isPort ≠ true) : ∃ c, m = .wait c := by
  cases m <;> simp_all [MicroOp.isPort]

/-- What a micro-operation that ends well does: it uses one answer or one elapsed WAIT and changes nothing but the
ports and the trace. -/
theorem perform_endsWell (m : MicroOp) (s : State) (as : List Answer) (w : Nat) (h : endsWell s [m] as w) :
    ∃ s', perform m s = .done s' ∧ s'.answers = as ∧ s'.elapsed = w ∧
      s'.trace = s.trace ++ okEvents s [m] ∧
      s'.cfg = s.cfg ∧ s'.fail = s.fail ∧ s'.err = s.err ∧ s'.addr = s.addr ∧ s'.path = s.path ∧
      s'.adapterErr = s.adapterErr ∧ s'.responses = s.responses ∧ s'.requests = s.requests ∧ s'.rst = s.rst ∧
      (modeCount [m] = 0 → s'.free = s.free ∧ s'.busLost = s.busLost ∧
        ∀ q, s'.port q = { s.port q with out := lastWrite q [m] (s.port q).out }) := by
  obtain ⟨ha, he⟩ := h
  cases m with
  | mode p => exact ⟨_, perform_mode_ok p s as ha, by simp_all [waitCount, okEvents, modeCount]⟩
  | wr p v =>
    refine ⟨_, perform_wr_ok p v s as ha, by simp, by simp_all [waitCount], by simp [okEvents], by simp, by simp,
      by simp, by simp, by simp, by simp, by simp, by simp, by simp, fun _ => ⟨by simp, by simp, fun q => ?_⟩⟩
    cases p <;> cases q <;> rfl
  | wait c =>
    refine ⟨_, perform_wait_done c s w (by simpa [waitCount, Nat.add_comm] using he), ?_⟩
    refine ⟨by simpa [portCount] using ha, rfl, by simp [okEvents], ?_⟩
    refine ⟨rfl, rfl, rfl, rfl, rfl, rfl, rfl, rfl, rfl, fun _ => ⟨rfl, rfl, fun q => ?_⟩⟩
    cases q <;> rfl

theorem endsWell_cons {m : MicroOp} {r : List MicroOp} {s : State} {as : List Answer} {w : Nat}
    (h : endsWell s (m :: r) as w) :
    endsWell s [m] (List.replicate (portCount r) .ok ++ as) (waitCount r + w) := by
  obtain ⟨ha, he⟩ := h
  cases m <;> refine ⟨?_, ?_⟩ <;> simp_all [portCount, waitCount, List.replicate_succ] <;> omega

/-- The loop passes over a first part whose micro-operations all end well: everything it does on the way. -/
theorem runFrom_prefix (ops post : List MicroOp) (as : List Answer) (w : Nat) (pre : List MicroOp) :
    ∀ (i : Nat) (s : State), endsWell s pre as w →
      ∃ s', runFrom ops i (pre ++ post) s = runFrom ops (i + pre.length) post s' ∧
        s'.answers = as ∧ s'.elapsed = w ∧ s'.trace = s.trace ++ okEvents s pre ∧
        s'.cfg = s.cfg ∧ s'.fail = s.fail ∧ s'.err = s.err ∧ s'.addr = s.addr ∧ s'.path = s.path ∧
        s'.adapterErr = s.adapterErr ∧ s'.responses = s.responses ∧ s'.requests = s.requests ∧
        s'.rst = s.rst ∧
        (modeCount pre = 0 → s'.free = s.free ∧ s'.busLost = s.busLost ∧
          ∀ q, s'.port q = { s.port q with out := lastWrite q pre (s.port q).out }) := by
  induction pre with
  | nil =>
    intro i s h
    exact ⟨s, by simp, by simpa [portCount] using h.1, by simpa [waitCount] using h.2, by simp [okEvents],
      rfl, rfl, rfl, rfl, rfl, rfl, rfl, rfl, rfl, fun _ => ⟨rfl, rfl, fun q => by simp [lastWrite]⟩⟩
  | cons m pre ih =>
    intro i s h
    obtain ⟨t, hd, ta, te, tt, t1, t2, t3, t4, t5, t6, t7, t8, t9, tp⟩ :=
      perform_endsWell m (s.atPosition ops i (m :: (pre ++ post))) _ _
        (show endsWell _ _ _ _ from endsWell_cons h)
    obtain ⟨u, hu, ua, ue, ut, u1, u2, u3, u4, u5, u6, u7, u8, u9, up⟩ := ih (i + 1) t ⟨ta, te⟩
    refine ⟨u, ?_, ua, ue, ?_, u1.trans t1, u2.trans t2, u3.trans t3, u4.trans t4, u5.trans t5, u6.trans t6,
      u7.trans t7, u8.trans t8, u9.trans t9, fun hm => ?_⟩
    · rw [List.cons_append, runFrom_done hd, hu, List.length_cons]
      congr 1
      omega
    · rw [ut, tt]
      simp [okEvents, t4, t5]
    · obtain ⟨h1, h2⟩ : modeCount [m] = 0 ∧ modeCount pre = 0 := by cases m <;> simp_all [modeCount]
      refine ⟨(up h2).1.trans (tp h1).1, (up h2).2.1.trans (tp h1).2.1, fun q => ?_⟩
      rw [(up h2).2.2 q, (tp h1).2.2 q, State.atPosition_port]
      cases m <;> simp [lastWrite]

/-! ## The three endings -/

/-- The whole result of a list without `MODE` whose micro-operations all end well. -/
theorem runFrom_allOk (ops : List MicroOp) (as : List Answer) (w : Nat) (rest : List MicroOp) (i : Nat) (s : State)
    (hm : modeCount rest = 0) (h : endsWell s rest as w) :
    runFrom ops i rest s =
      { s with
        seq := .idle
        latches := Latches.empty
        answers := as
        elapsed := w
        port0 := { s.port0 with out := lastWrite .p0 rest s.port0.out }
        port1 := { s.port1 with out := lastWrite .p1 rest s.port1.out }
        trace := s.trace ++ okEvents s rest
        responses := s.responses ++ [{ code := .ok, value := .none }] } := by
  obtain ⟨u, hu, ua, ue, ut, u1, u2, u3, u4, u5, u6, u7, u8, u9, up⟩ := runFrom_prefix ops [] as w rest i s h
  rw [List.append_nil, runFrom_nil] at hu
  rw [hu]
  obtain ⟨uf, ub, uq⟩ := up hm
  have q0 : u.port0 = { s.port0 with out := lastWrite .p0 rest s.port0.out } := uq .p0
  have q1 : u.port1 = { s.port1 with out := lastWrite .p1 rest s.port1.out } := uq .p1
  ext <;> simp [*]

/-- The result of any list at a micro-operation that fails, everything before it having ended well, but for the ports. -/
theorem runFrom_fails (ops pre post : List MicroOp) (m : MicroOp) (msg : List Byte) (as : List Answer) (w : Nat)
    (i : Nat) (s : State) (hm : m.isPort = true) (h : endsWell s pre (.fail msg :: as) w) :
    (runFrom ops i (pre ++ m :: post) s).trace = s.trace ++ okEvents s pre ++
        [{ op := m, answer := .fail msg, addr := s.addr, path := s.path }] ∧
      (runFrom ops i (pre ++ m :: post) s).seq = .idle ∧
      (runFrom ops i (pre ++ m :: post) s).latches = Latches.empty ∧
      (runFrom ops i (pre ++ m :: post) s).answers = as ∧
      (runFrom ops i (pre ++ m :: post) s).elapsed = w ∧
      (runFrom ops i (pre ++ m :: post) s).fail = true ∧
      (runFrom ops i (pre ++ m :: post) s).err = { kind := .transport, text := msg } ∧
      (runFrom ops i (pre ++ m :: post) s).adapterErr = msg ∧
      (runFrom ops i (pre ++ m :: post) s).busLost = true ∧
      (runFrom ops i (pre ++ m :: post) s).responses = s.responses ++ [{ code := .fail, value := .none }] := by
  obtain ⟨u, hu, ua, ue, ut, u1, u2, u3, u4, u5, u6, u7, u8, u9, up⟩ := runFrom_prefix ops (m :: post) _ w pre i s h
  obtain ⟨p, hp⟩ := perform_port_fail m hm (u.atPosition ops (i + pre.length) (m :: post)) msg as (by simpa using ua)
  rw [hu, runFrom_failed hp]
  simp [ut, u4, u5, u7, ue, State.lastError]

/-- The result of any list at a micro-operation that cannot end yet, everything before it having ended well, but for
the ports and the latches: RUN(ops, i) at it. -/
theorem runFrom_waits (ops pre post : List MicroOp) (m : MicroOp) (as : List Answer) (w : Nat) (i : Nat) (s : State)
    (hm : cannotEnd m as w) (h : endsWell s pre as w) :
    (runFrom ops i (pre ++ m :: post) s).trace = s.trace ++ okEvents s pre ∧
      (runFrom ops i (pre ++ m :: post) s).seq = .run ops (i + pre.length) ∧
      (runFrom ops i (pre ++ m :: post) s).answers = as ∧
      (runFrom ops i (pre ++ m :: post) s).elapsed = w ∧
      (runFrom ops i (pre ++ m :: post) s).fail = s.fail ∧ (runFrom ops i (pre ++ m :: post) s).err = s.err ∧
      (runFrom ops i (pre ++ m :: post) s).responses = s.responses := by
  obtain ⟨u, hu, ua, ue, ut, u1, u2, u3, u4, u5, u6, u7, u8, u9, up⟩ := runFrom_prefix ops (m :: post) as w pre i s h
  rw [hu, runFrom_pending (perform_pending m _ (by simpa [ua, ue] using hm))]
  simp [ut, ua, ue, u2, u3, u7]

/-- A list cut at one of its positions. -/
theorem cut_at {ops : List MicroOp} {n : Nat} {m : MicroOp} (h : ops[n]? = some m) :
    ops = ops.take n ++ m :: ops.drop (n + 1) ∧ (ops.take n).length = n := by
  obtain ⟨hn, hm⟩ := List.getElem?_eq_some_iff.1 h
  refine ⟨?_, by simp; omega⟩
  rw [← hm, ← List.drop_eq_getElem_cons hn, List.take_append_drop]

end Sys2Proof.Machine
end

