-- ==== Sys2Proof/Laws/Exec.lean ====
section
/-! SUPPORT. What `exec` and `step` can do, said once each, and small lemmas about the expansions. -/

namespace Sys2Proof.Machine

theorem orBit_true (v : Byte) : orBit true v = v := rfl

theorem orBit_false (v : Byte) : orBit false v = 0#8 := rfl

@[simp] theorem ctrl_data (cfg : Params) : ctrl cfg true false false = cfg.rsMask := by
  simp [ctrl, orBit]

@[simp] theorem ctrl_command (cfg : Params) : ctrl cfg false false false = 0#8 := by
  simp [ctrl, orBit]

theorem wrdatOps_eq (cfg : Params) (b : Byte) : wrdatOps cfg b = dataWrite cfg b := by
  simp [wrdatOps, strobe, dataWrite, dataPort, ctrlPort]

theorem wrcmdOps_eq (cfg : Params) (b : Byte) : wrcmdOps cfg b = commandWrite cfg b := by
  simp [wrcmdOps, strobe, commandWrite, dataPort, ctrlPort]

theorem wrstrOps_eq (cfg : Params) (text : List Byte) :
    wrstrOps cfg text = text.flatMap (dataWrite cfg) := by
  simp only [wrstrOps, funext (wrdatOps_eq cfg)]

@[simp] theorem portCount_dataWrite (cfg : Params) (b : Byte) : portCount (dataWrite cfg b) = 4 := rfl

@[simp] theorem portCount_commandWrite (cfg : Params) (b : Byte) : portCount (commandWrite cfg b) = 4 := rfl

@[simp] theorem modeCount_dataWrite (cfg : Params) (b : Byte) : modeCount (dataWrite cfg b) = 0 := rfl

@[simp] theorem modeCount_commandWrite (cfg : Params) (b : Byte) : modeCount (commandWrite cfg b) = 0 := rfl

@[simp] theorem portCount_text (cfg : Params) (text : List Byte) :
    portCount (text.flatMap (dataWrite cfg)) = 4 * text.length := by
  induction text with
  | nil => rfl
  | cons b text ih => simp only [List.flatMap_cons, portCount_append, ih, List.length_cons,
      portCount_dataWrite]; omega

@[simp] theorem waitCount_dataWrite (cfg : Params) (b : Byte) : waitCount (dataWrite cfg b) = 2 := rfl

@[simp] theorem waitCount_commandWrite (cfg : Params) (b : Byte) : waitCount (commandWrite cfg b) = 2 := rfl

@[simp] theorem waitCount_text (cfg : Params) (text : List Byte) :
    waitCount (text.flatMap (dataWrite cfg)) = 2 * text.length := by
  induction text with
  | nil => rfl
  | cons b text ih => simp only [List.flatMap_cons, waitCount_append, ih, List.length_cons,
      waitCount_dataWrite]; omega

@[simp] theorem modeCount_text (cfg : Params) (text : List Byte) :
    modeCount (text.flatMap (dataWrite cfg)) = 0 := by
  induction text with
  | nil => rfl
  | cons b text ih => simp [ih]

/-- The lines `lineOf` accepts are R97's. -/
theorem lineOf_isNone (n : Nat) : (lineOf n).isNone = true ↔ n ∉ [1, 2, 3, 4] := by
  unfold lineOf; split <;> simp_all

/-- Every operation is one of six shapes: a run of its expansion, the invalid-line failure, or one of the four that
touch the block's own registers. -/
theorem exec_cases (i : Instr) (s : State) :
    (exec i s = .next (runOperation (expansion s.cfg i) (operandLatches i) s) ∧ invalidLineRequest i = false ∧
      registersOnly i = false ∧ okValue s i = .none) ∨
    (exec i s = .next (s.raiseFailure .invalidLine s.cfg.msgInvalidLine) ∧ expansion s.cfg i = [] ∧
      invalidLineRequest i = true ∧ ∃ line col, i = .setcur line col ∧ line.toNat ∉ [1, 2, 3, 4]) ∨
    (i = .geterr ∧ exec i s = .next (s.complete (.err s.err))) ∨
    (i = .failed ∧ exec i s = .next (s.complete (.flag s.fail))) ∨
    (∃ a, i = .setaddr a ∧ exec i s = .next ((s.setEndpoint (a.toNat : Int) s.path).complete .none)) ∨
    (∃ p, i = .setpath p ∧ exec i s = .next ((s.setEndpoint s.addr p).complete .none)) := by
  cases i with
  | init => exact .inl ⟨rfl, rfl, rfl, rfl⟩
  | clear => exact .inl ⟨rfl, rfl, rfl, rfl⟩
  | home => exact .inl ⟨rfl, rfl, rfl, rfl⟩
  | setdisp cur blk => exact .inl ⟨rfl, rfl, rfl, rfl⟩
  | wrstr text => exact .inl ⟨rfl, rfl, rfl, rfl⟩
  | wrcmd b => exact .inl ⟨rfl, rfl, rfl, rfl⟩
  | wrdat b => exact .inl ⟨rfl, rfl, rfl, rfl⟩
  | geterr => exact .inr (.inr (.inl ⟨rfl, rfl⟩))
  | failed => exact .inr (.inr (.inr (.inl ⟨rfl, rfl⟩)))
  | setaddr a => exact .inr (.inr (.inr (.inr (.inl ⟨a, rfl, rfl⟩))))
  | setpath p => exact .inr (.inr (.inr (.inr (.inr ⟨p, rfl, rfl⟩))))
  | setcur line col =>
    cases h : lineOf line.toNat with
    | some l =>
      exact .inl ⟨by simp [exec, execSetcur, expansion, operandLatches, h], by simp [invalidLineRequest, h], rfl, rfl⟩
    | none =>
      exact .inr (.inl ⟨by simp [exec, execSetcur, h], by simp [expansion, h],
        by simp [invalidLineRequest, h], line, col, rfl, (lineOf_isNone _).1 (by simp [h])⟩)

/-- Everything a step can do. -/
theorem step_cases (s : State) :
    (s.rst = true ∧ step s = .next s.resetEvent) ∨
    (s.rst = false ∧ ∃ ops i, s.seq = .run ops i ∧ step s = .next (s.resume ops i)) ∨
    (s.rst = false ∧ s.seq = .idle ∧ s.fetch = .incomplete ∧ step s = .next s) ∨
    (s.rst = false ∧ s.seq = .idle ∧ ∃ why rest, s.fetch = .illegal why rest ∧
      step s = .next (s.refuseRequest rest)) ∨
    (s.rst = false ∧ s.seq = .idle ∧ ∃ i rest, s.fetch = .legal i rest ∧
      step s = exec i (s.acceptRequest rest)) := by
  by_cases hr : s.rst = true
  · exact .inl ⟨hr, by simp [step, hr]⟩
  · have hr' : s.rst = false := by simpa using hr
    cases hs : s.seq with
    | run ops i => exact .inr (.inl ⟨hr', ops, i, rfl, by simp [step, hr', hs]⟩)
    | idle =>
      cases hf : s.fetch with
      | incomplete => exact .inr (.inr (.inl ⟨hr', rfl, rfl, by simp [step, hr', hs, hf]⟩))
      | illegal why rest =>
        exact .inr (.inr (.inr (.inl ⟨hr', rfl, why, rest, rfl, by simp [step, hr', hs, hf]⟩)))
      | legal i rest =>
        exact .inr (.inr (.inr (.inr ⟨hr', rfl, i, rest, rfl, by simp [step, hr', hs, hf]⟩)))

end Sys2Proof.Machine
end

