-- ==== Sys2Proof/Laws/PerInstr.lean ====
section
/-! SUPPORT. Facts about every operation as syntax, one lemma per constructor. -/

namespace Sys2Proof.Laws.WordCount

/-- The words of a well-formed operation are as many as its header counts: 1 + payload (30_encoding.md R56). -/
def Statement (i : Instr) : Prop :=
  i.wf = true → ∃ w ws, encode i = w :: ws ∧ ws.length = payloadCount w

theorem payloadCount_text (op : BitVec 4) (hop : op = 0x6#4 ∨ op = 0xC#4) (text : List Byte)
    (h : textFits text = true) : payloadCount (op ++ BitVec.ofNat 12 text.length) = text.length := by
  have hl : text.length ≤ 4095 := of_decide_eq_true h
  simp only [payloadCount, fields_opLen, hop, if_true]
  simp
  omega

theorem init : Statement .init := fun _ => ⟨_, _, rfl, by decide⟩

theorem clear : Statement .clear := fun _ => ⟨_, _, rfl, by decide⟩

theorem home : Statement .home := fun _ => ⟨_, _, rfl, by decide⟩

theorem setdisp (cur blk : Bool) : Statement (.setdisp cur blk) := fun _ =>
  ⟨_, _, rfl, by cases cur <;> cases blk <;> decide⟩

theorem setcur (line : BitVec 4) (col : Byte) : Statement (.setcur line col) := fun _ =>
  ⟨_, _, rfl, by simp [payloadCount, fields_opLineByte]⟩

theorem wrstr (text : List Byte) : Statement (.wrstr text) := fun h =>
  ⟨_, _, rfl, by rw [payloadCount_text _ (.inl rfl) text h]; simp⟩

theorem wrcmd (b : Byte) : Statement (.wrcmd b) := fun _ =>
  ⟨_, _, rfl, by simp only [payloadCount, fields_opLineByte]; rfl⟩

theorem wrdat (b : Byte) : Statement (.wrdat b) := fun _ =>
  ⟨_, _, rfl, by simp only [payloadCount, fields_opLineByte]; rfl⟩

theorem geterr : Statement .geterr := fun _ => ⟨_, _, rfl, by decide⟩

theorem failed : Statement .failed := fun _ => ⟨_, _, rfl, by decide⟩

theorem setaddr (addr : Byte) : Statement (.setaddr addr) := fun _ =>
  ⟨_, _, rfl, by simp only [payloadCount, fields_opLineByte]; rfl⟩

theorem setpath (path : List Byte) : Statement (.setpath path) := fun h =>
  ⟨_, _, rfl, by rw [payloadCount_text _ (.inr rfl) path h]; simp⟩

end Sys2Proof.Laws.WordCount
end

