-- ==== Sys2Proof/Tests/Slice0.lean ====
section
/-! SUPPORT. The model's own tests: what WellFormed refuses, the words of 30_encoding.md, one step of each operation
against 95_test_vectors.md, and one witness for the hypotheses of each statement in the Obligations file. -/

namespace Sys2Proof.Tests

open Sys2Proof Sys2Proof.Machine

/-! ## Helpers -/

/-- The EXAMPLE banner of 95_test_vectors.md P1, total length 4. -/
def exampleBanner : Banner where
  b0 := { line := .l1, col := 0#8, text := [0x41#8, 0x42#8] }
  b1 := { line := .l2, col := 1#8, text := [0x43#8] }
  b2 := { line := .l3, col := 2#8, text := [] }
  b3 := { line := .l4, col := 3#8, text := [0x44#8] }

/-- R5's defaults, with example values for the OPEN parameters. -/
def exampleCfg : Params :=
  { Config.default with
    banner := exampleBanner, addrDefault := 0x20, pathDefault := [0x2F#8], msgInvalidLine := [0x4C#8] }

/-- The "initialised state" of 95_test_vectors.md with OUT = (0, 0), these adapter answers to come, and time for 40
WAITs. -/
def ready (answers : List Answer) : State :=
  { State.resetWith exampleCfg with
    port0 := { out := 0#8, dir := .output }
    port1 := { out := 0#8, dir := .output }
    busLost := false
    answers := answers
    elapsed := 40 }

/-- `n` calls answered ok. -/
def oks (n : Nat) : List Answer := List.replicate n .ok

/-- The adapter's failure message E. -/
def msgE : List Byte := [0x45#8]

/-- What one operation performed, from the ready state. -/
def performed (i : Instr) (answers : List Answer) : List (MicroOp × Answer) :=
  match exec i (ready answers) with
  | .next t => t.trace.map fun e => (e.op, e.answer)
  | .fault _ => []
  | .refused _ => []

/-- Its response, FAIL and ERR. -/
def outcome (i : Instr) (answers : List Answer) : Option (List Response × Bool × ErrRecord) :=
  match exec i (ready answers) with
  | .next t => some (t.responses, t.fail, t.err)
  | .fault _ => none
  | .refused _ => none

/-- The state after one operation. -/
def after (i : Instr) (s : State) : State :=
  match exec i s with
  | .next t => t
  | .fault _ => s
  | .refused _ => s

/-- All of them answered ok. -/
def allOk (ops : List MicroOp) : List (MicroOp × Answer) := ops.map fun m => (m, .ok)

def respOk : List Response := [{ code := .ok, value := .none }]

def respFail : List Response := [{ code := .fail, value := .none }]

def noErr : ErrRecord := { kind := .none, text := [] }

/-! ## WellFormed refuses (30_encoding.md R52: len is 0 to 4095) -/

theorem test_wf_refuses_long_text : (Instr.wrstr (List.replicate 4096 0#8)).wf = false := by
  decide +kernel

theorem test_wf_refuses_long_path : (Instr.setpath (List.replicate 4096 0#8)).wf = false := by
  decide +kernel

theorem test_wf_allows_longest_text : (Instr.wrstr (List.replicate 4095 0#8)).wf = true := by
  decide +kernel

/-! ## Decoding (95_test_vectors.md V1 to V20; words written out from R51 and R53) -/

theorem test_decode_init : decodeRequest [0b0001000000000000#16] = .legal .init [] := by decide

theorem test_decode_init_must_be_zero :
    decodeRequest [0b0001000000000001#16] = .illegal .mustBeZero [] := by decide

theorem test_decode_reserved :
    decodeRequest [0x0000#16] = .illegal .reservedOpcode [] ∧
    decodeRequest [0xD000#16] = .illegal .reservedOpcode [] ∧
    decodeRequest [0xE123#16] = .illegal .reservedOpcode [] ∧
    decodeRequest [0xFFFF#16] = .illegal .reservedOpcode [] := by decide

theorem test_decode_clear : decodeRequest [0b0010000000000000#16] = .legal .clear [] := by decide

theorem test_decode_home : decodeRequest [0b0011000000000000#16] = .legal .home [] := by decide

theorem test_decode_setdisp :
    decodeRequest [0b0100000000000000#16] = .legal (.setdisp false false) [] ∧
    decodeRequest [0b0100000000000001#16] = .legal (.setdisp false true) [] ∧
    decodeRequest [0b0100000000000010#16] = .legal (.setdisp true false) [] ∧
    decodeRequest [0b0100000000000011#16] = .legal (.setdisp true true) [] := by decide

theorem test_decode_setdisp_must_be_zero :
    decodeRequest [0x4004#16] = .illegal .mustBeZero [] := by decide

theorem test_decode_setcur :
    decodeRequest [0b0101001000000101#16] = .legal (.setcur 2#4 5#8) [] ∧
    decodeRequest [0x5000#16] = .legal (.setcur 0#4 0#8) [] ∧
    decodeRequest [0x5F13#16] = .legal (.setcur 15#4 19#8) [] ∧
    decodeRequest [0x54C8#16] = .legal (.setcur 4#4 200#8) [] := by decide

theorem test_decode_wrstr :
    decodeRequest [0b0110000000000000#16] = .legal (.wrstr []) [] ∧
    decodeRequest [0b0110000000000010#16, 0x0048#16, 0x0069#16, 0x1000#16] =
      .legal (.wrstr [0x48#8, 0x69#8]) [0x1000#16] := by decide

theorem test_decode_wrstr_bad_payload :
    decodeRequest [0x6001#16, 0x0141#16, 0x2000#16] = .illegal .badPayload [0x2000#16] := by decide

theorem test_decode_wrstr_not_all_there : decodeRequest [0x6002#16, 0x0048#16] = .incomplete := by
  decide

theorem test_decode_wrcmd : decodeRequest [0b0111000011111111#16] = .legal (.wrcmd 0xFF#8) [] := by
  decide

theorem test_decode_wrcmd_must_be_zero :
    decodeRequest [0x7101#16] = .illegal .mustBeZero [] := by decide

theorem test_decode_wrdat : decodeRequest [0b1000000001000001#16] = .legal (.wrdat 0x41#8) [] := by
  decide

theorem test_decode_geterr : decodeRequest [0b1001000000000000#16] = .legal .geterr [] := by decide

theorem test_decode_failed : decodeRequest [0b1010000000000000#16] = .legal .failed [] := by decide

theorem test_decode_setaddr : decodeRequest [0b1011000000100001#16] = .legal (.setaddr 0x21#8) [] := by
  decide

theorem test_decode_setpath :
    decodeRequest [0b1100000000000000#16] = .legal (.setpath []) [] ∧
    decodeRequest [0xC002#16, 0x002F#16, 0x0064#16] = .legal (.setpath [0x2F#8, 0x64#8]) [] := by decide

/-- R63: the words the assembler table gives. -/
theorem test_encode :
    encode (.setcur 2#4 5#8) = [0x5205#16] ∧ encode (.setdisp true false) = [0x4002#16] ∧
    encode (.wrstr [0x48#8, 0x69#8]) = [0x6002#16, 0x0048#16, 0x0069#16] := by decide

/-- A table row's word with operand words of zeros, as the host asks for it. -/
theorem test_table_words :
    decodeTableWord 16 0x6003 = some (.wrstr [0#8, 0#8, 0#8]) ∧ decodeTableWord 16 0xB0FF = some (.setaddr 0xFF#8) ∧
    decodeTableWord 16 0x1001 = none := by decide

/-! ## The encoder of control bits and the composed bytes (V21 to V26, R96, V37 to V50) -/

theorem test_ctrl :
    ctrl exampleCfg false false false = 0x00#8 ∧ ctrl exampleCfg true false false = 0x01#8 ∧
    ctrl exampleCfg false false true = 0x04#8 ∧ ctrl exampleCfg true false true = 0x05#8 ∧
    ctrl exampleCfg false true false = 0x02#8 ∧ ctrl exampleCfg true true true = 0x07#8 := by decide

theorem test_ddram :
    ddramByte exampleCfg .l1 0#8 = 0x80#8 ∧ ddramByte exampleCfg .l3 0#8 = 0x94#8 ∧
    ddramByte exampleCfg .l4 19#8 = 0xE7#8 ∧ ddramByte exampleCfg .l4 200#8 = 0x9C#8 ∧
    ddramByte exampleCfg .l2 64#8 = 0x80#8 ∧ ddramByte exampleCfg .l2 255#8 = 0xBF#8 := by decide

/-- The numbers of R130 and R62. -/
theorem test_numbers :
    FailureKind.number .none = 0 ∧ FailureKind.number .transport = 1 ∧ FailureKind.number .invalidLine = 2 ∧
    RespCode.number .ok = 0 ∧ RespCode.number .fail = 1 ∧ RespCode.number .refused = 2 := by decide

/-! ## One step of each operation -/

/-- V27. -/
theorem test_wrdat :
    performed (.wrdat 0x41#8) (oks 4) = allOk
      [.wr .p0 0x41#8, .wr .p1 0x01#8, .wr .p1 0x05#8, .wait .en, .wr .p1 0x01#8, .wait .data] := by
  decide

/-- V45: the fourth port write fails; no WAIT DATA. -/
theorem test_wrdat_fails_at_the_fourth :
    performed (.wrdat 0x41#8) (oks 3 ++ [.fail msgE]) = allOk
      [.wr .p0 0x41#8, .wr .p1 0x01#8, .wr .p1 0x05#8, .wait .en] ++ [(.wr .p1 0x01#8, .fail msgE)] ∧
    outcome (.wrdat 0x41#8) (oks 3 ++ [.fail msgE]) =
      some (respFail, true, { kind := .transport, text := msgE }) := by
  decide

/-- V30. -/
theorem test_wrcmd :
    performed (.wrcmd 0x01#8) (oks 4) = allOk
      [.wr .p0 0x01#8, .wr .p1 0x00#8, .wr .p1 0x04#8, .wait .en, .wr .p1 0x00#8, .wait .cmd] := by
  decide

/-- V31. -/
theorem test_clear :
    performed .clear (oks 4) = allOk
      [.wr .p0 0x01#8, .wr .p1 0x00#8, .wr .p1 0x04#8, .wait .en, .wr .p1 0x00#8, .wait .cmd,
        .wait .clear] := by
  decide

/-- V46: neither wait after the failing third write. -/
theorem test_clear_fails_at_the_third :
    performed .clear (oks 2 ++ [.fail msgE]) = allOk [.wr .p0 0x01#8, .wr .p1 0x00#8] ++
      [(.wr .p1 0x04#8, .fail msgE)] := by
  decide

/-- V32. -/
theorem test_home :
    performed .home (oks 4) = allOk
      [.wr .p0 0x02#8, .wr .p1 0x00#8, .wr .p1 0x04#8, .wait .en, .wr .p1 0x00#8, .wait .cmd,
        .wait .home] := by
  decide

/-- V35. -/
theorem test_setdisp :
    performed (.setdisp true false) (oks 4) = allOk
      [.wr .p0 0x0E#8, .wr .p1 0x00#8, .wr .p1 0x04#8, .wait .en, .wr .p1 0x00#8, .wait .cmd] := by
  decide

/-- V38. -/
theorem test_setcur :
    performed (.setcur 2#4 5#8) (oks 4) = allOk
      [.wr .p0 0xC5#8, .wr .p1 0x00#8, .wr .p1 0x04#8, .wait .en, .wr .p1 0x00#8, .wait .cmd] := by
  decide

/-- V51. -/
theorem test_setcur_invalid_line :
    performed (.setcur 5#4 0#8) (oks 4) = [] ∧
    outcome (.setcur 5#4 0#8) (oks 4) =
      some (respFail, true, { kind := .invalidLine, text := [0x4C#8] }) := by
  decide

/-- V41. -/
theorem test_wrstr :
    performed (.wrstr [0x48#8, 0x69#8]) (oks 8) = allOk
      [.wr .p0 0x48#8, .wr .p1 0x01#8, .wr .p1 0x05#8, .wait .en, .wr .p1 0x01#8, .wait .data,
        .wr .p0 0x69#8, .wr .p1 0x01#8, .wr .p1 0x05#8, .wait .en, .wr .p1 0x01#8, .wait .data] := by
  decide

/-- P3: the seventh port write of WRSTR "OK!" fails; '!' is never started. -/
theorem test_wrstr_fails_at_the_second_character :
    performed (.wrstr [0x4F#8, 0x4B#8, 0x21#8]) (oks 6 ++ [.fail msgE]) = allOk
      [.wr .p0 0x4F#8, .wr .p1 0x01#8, .wr .p1 0x05#8, .wait .en, .wr .p1 0x01#8, .wait .data,
        .wr .p0 0x4B#8, .wr .p1 0x01#8] ++ [(.wr .p1 0x05#8, .fail msgE)] := by
  decide

/-- P1: 79 micro-operations; the first eleven of R110 and the last six. -/
theorem test_init :
    (performed .init (oks 52)).length = 79 ∧
    (performed .init (oks 52)).take 12 = allOk
      [.mode .p0, .mode .p1, .wr .p0 0x00#8, .wr .p1 0x00#8, .wait .boot, .wr .p0 0x38#8, .wr .p1 0x00#8,
        .wr .p1 0x04#8, .wait .en, .wr .p1 0x00#8, .wait .cmd, .wait .fset] ∧
    (performed .init (oks 52)).drop 67 = allOk
      [.wr .p0 0xD7#8, .wr .p1 0x00#8, .wr .p1 0x04#8, .wait .en, .wr .p1 0x00#8, .wait .cmd,
        .wr .p0 0x44#8, .wr .p1 0x01#8, .wr .p1 0x05#8, .wait .en, .wr .p1 0x01#8, .wait .data] := by
  decide +kernel

/-- V53: MODE 1 fails; nothing is written. -/
theorem test_init_fails_at_mode_1 :
    performed .init [.ok, .fail msgE] = [(.mode .p0, .ok), (.mode .p1, .fail msgE)] := by
  decide

/-- V60. -/
theorem test_geterr :
    outcome .geterr [] = some ([{ code := .ok, value := .err noErr }], false, noErr) := by decide

/-- V59. -/
theorem test_failed :
    outcome .failed [] = some ([{ code := .ok, value := .flag false }], false, noErr) := by decide

/-- V63. -/
theorem test_setaddr : ∃ t, exec (.setaddr 0x21#8) (ready []) = .next t ∧ t.addr = 0x21 ∧ t.trace = [] ∧
    t.responses = respOk :=
  ⟨_, rfl, rfl, rfl, rfl⟩

/-- V64, its first two bytes. -/
theorem test_setpath : ∃ t, exec (.setpath [0x2F#8, 0x64#8]) (ready []) = .next t ∧
    t.path = [0x2F#8, 0x64#8] ∧ t.trace = [] ∧ t.responses = respOk :=
  ⟨_, rfl, rfl, rfl, rfl⟩

/-- P5, its second word: refused, nothing performed, consumed. -/
theorem test_step_refuses : ∃ t, step { ready (oks 4) with requests := [0x7101#16, 0x70C0#16] } = .next t ∧
    t.requests = [0x70C0#16] ∧ t.trace = [] ∧ t.fail = false ∧
    t.responses = [{ code := .refused, value := .none }] :=
  ⟨_, rfl, rfl, rfl, rfl, rfl⟩

/-- R141, R14: a WRDAT whose third call is not answered yet waits at micro-operation 2, with its latches. -/
theorem test_waits_for_the_adapter : ∃ t, exec (.wrdat 0x41#8) (ready (oks 2)) = .next t ∧
    t.seq = .run (wrdatOps exampleCfg 0x41#8) 2 ∧ t.responses = [] ∧
    t.latches.ctrl = some 0x01#8 ∧ t.latches.data = some 0x41#8 :=
  ⟨_, rfl, rfl, rfl, rfl, rfl⟩

/-- R150: a reset during the last WAIT of a CLEAR drops it, without a response, and leaves the ports as they were. -/
theorem test_reset_during_a_wait : ∃ t u, exec .clear { ready (oks 4) with elapsed := 2 } = .next t ∧
    t.seq = .run (clearOps exampleCfg) 6 ∧ step t.assertReset = .next u ∧ u.seq = .idle ∧ u.responses = [] ∧
    u.addr = 0x20 ∧ u.port0 = { out := 0x01#8, dir := .output } ∧ u.port1 = { out := 0x00#8, dir := .output } :=
  ⟨_, _, rfl, rfl, rfl, rfl, rfl, rfl, rfl, rfl⟩

/-- R85, R161: of a WRSTR that fails in its second character the display is known to have got the first only. -/
theorem test_delivered_stops_at_the_failure :
    delivered exampleCfg (ready []).bus
      ((performed (.wrstr [0x4F#8, 0x4B#8]) (oks 6 ++ .fail msgE :: oks 4) ++ performed (.wrdat 0x21#8) (oks 4)).map
        fun x => { op := x.1, answer := x.2, addr := 0x20, path := [] }) =
      [{ rs := true, data := 0x4F#8 }] := by
  decide

/-- R161: a WRDAT that fails at step 5, a WRDAT that is well, then a WRSTR: of the last nothing is claimed; after an INIT
the WRSTR's byte is. -/
theorem test_nothing_is_claimed_between_a_failed_strobe_and_init :
    let t := after (.wrdat 0x41#8) (ready (oks 3 ++ [.fail msgE]))
    let u := after (.wrdat 0x42#8) { t with answers := oks 4 }
    let v := after (.wrstr [0x43#8]) { u with answers := oks 4 }
    u.responses = respFail ++ respOk ∧ v.responses = respFail ++ respOk ++ respOk ∧
    delivered exampleCfg u.bus (v.trace.drop u.trace.length) = [] := by
  decide +kernel

theorem test_init_ends_what_a_failed_strobe_began :
    let t := after (.wrdat 0x41#8) (ready (oks 3 ++ [.fail msgE]))
    let u := after .init { t with answers := oks 52 }
    let v := after (.wrstr [0x43#8]) { u with answers := oks 4, elapsed := 2 }
    delivered exampleCfg u.bus (v.trace.drop u.trace.length) = [{ rs := true, data := 0x43#8 }] := by
  decide +kernel

/-! ## Witnesses: the hypotheses of each statement are met together -/

theorem witness_DecodeOfEncodeGivesTheOperation :
    (Instr.wrstr (List.replicate 4095 0xFF#8)).wf = true ∧ (Instr.wrstr []).wf = true ∧
    (Instr.setcur 15#4 255#8).wf = true := by
  decide +kernel

theorem witness_LegalRequestIsTheEncodingOfItsOperation :
    decodeRequest [0x6001#16, 0x0041#16, 0x2000#16] = .legal (.wrstr [0x41#8]) [0x2000#16] := by decide

theorem witness_HeaderSelectsItsOneRow :
    decodeRequest [0x80FF#16] = .legal (.wrdat 0xFF#8) [] ∧
    (0x4003#16 &&& rowMask (.setdisp true true) = rowMatch (.setdisp true true) ∧
      0x4003#16 &&& rowMask (.setdisp false true) = rowMatch (.setdisp false true)) ∧
    (∀ i : Instr, 0x4004#16 &&& rowMask i ≠ rowMatch i) ∧ (∀ i : Instr, 0xD000#16 &&& rowMask i ≠ rowMatch i) ∧
    (0x6001#16 &&& rowMask (.wrstr []) = rowMatch (.wrstr []) ∧
      decodeRequest [0x6001#16, 0x0141#16] = .illegal .badPayload []) := by
  refine ⟨by decide, ⟨by decide, by decide⟩, fun i => ?_, fun i => ?_, by decide, by decide⟩
  · cases i <;> exact fun h => absurd h (by simp only [rowMask, rowMatch]; decide)
  · cases i <;> exact fun h => absurd h (by simp only [rowMask, rowMatch]; decide)

theorem witness_HeaderAloneDecidesTheLength :
    (List.replicate 4094 0x0041#16).length < payloadCount 0x6FFF#16 ∧
    payloadCount 0x6FFF#16 ≤ (List.replicate 4095 0x0041#16).length ∧
    payloadCount 0xC000#16 ≤ ([] : List Word).length ∧ payloadCount 0x5FFF#16 ≤ ([] : List Word).length := by
  have h : payloadCount 0x6FFF#16 = 4095 := by decide
  rw [h, List.length_replicate, List.length_replicate]
  decide

theorem witness_IllegalRequestIsRefusedWithoutEffect :
    (ready []).rst = false ∧ (ready []).seq = .idle ∧
    opField 0xD000#16 ∈ [0x0#4, 0xD#4, 0xE#4, 0xF#4] ∧
    (opField 0x1001#16 ∈ [0x1#4, 0x2#4, 0x3#4, 0x9#4, 0xA#4] ∧ lenField 0x1001#16 ≠ 0#12) ∧
    (opField 0xB100#16 ∈ [0x7#4, 0x8#4, 0xB#4] ∧ lineField 0xB100#16 ≠ 0#4) ∧
    (opField 0x4004#16 = 0x4#4 ∧ flagsZeroField 0x4004#16 ≠ 0#10) ∧
    (opField 0xC001#16 ∈ [0x6#4, 0xC#4] ∧ (lenField 0xC001#16).toNat ≤ [0x0100#16].length ∧
      ∃ p ∈ [0x0100#16].take (lenField 0xC001#16).toNat, payloadHigh p ≠ 0#8) :=
  ⟨rfl, rfl, by decide, by decide, by decide, by decide, by decide, by decide, 0x0100#16, by decide, by decide⟩

theorem witness_StepRunsTheDecodedOperation :
    let s : State := { ready (oks 4) with requests := [0x8041#16, 0x1000#16] }
    s.rst = false ∧ s.seq = .idle ∧ decodeRequest s.requests = .legal (.wrdat 0x41#8) [0x1000#16] := by
  decide

theorem witness_IdleBlockWaitsForAWholeRequest :
    let s : State := { ready [] with requests := [0x6001#16] }
    (ready []).requests = [] ∧ s.rst = false ∧ s.seq = .idle ∧ s.requests = 0x6001#16 :: [] ∧
    ([] : List Word).length < payloadCount 0x6001#16 := by
  decide

/-- A block that waits at micro-operation 2 of a WRDAT. -/
def busy (answers : List Answer) : State :=
  { ready answers with
    seq := .run (wrdatOps exampleCfg 0x41#8) 2
    latches := { Latches.empty with ctrl := some 0x01#8, data := some 0x41#8 } }

theorem witness_BusyBlockTakesNoRequest :
    (busy (oks 2)).rst = false ∧ (busy (oks 2)).seq = .run (wrdatOps exampleCfg 0x41#8) 2 := by
  decide

theorem witness_OneResponsePerRequest :
    let s : State := { ready (oks 4) with requests := [0x8041#16] }
    s.rst = false ∧ s.seq = .idle ∧ decodeRequest s.requests = .legal (.wrdat 0x41#8) [] ∧
    ∃ t, step s = .next t :=
  ⟨rfl, rfl, by decide, _, rfl⟩

theorem witness_OperationsRunInOrderAndStopAtTheFirstFailure :
    invalidLineRequest .clear = false ∧ (ready []).cfg = exampleCfg ∧
    endsWell (ready (oks 4)) (expansion exampleCfg .clear) [] 37 ∧
    ((expansion exampleCfg .clear)[0]? = some (.wr .p0 0x01#8) ∧
      endsWell (ready [.fail msgE]) ((expansion exampleCfg .clear).take 0) [.fail msgE] 40) ∧
    ((expansion exampleCfg .clear)[4]? = some (.wr .p1 0x00#8) ∧
      endsWell (ready (oks 3 ++ [.fail msgE])) ((expansion exampleCfg .clear).take 4) [.fail msgE] 39) ∧
    (cannotEnd (.wr .p1 0x00#8) [] 39 ∧ endsWell (ready (oks 3)) ((expansion exampleCfg .clear).take 4) [] 39) ∧
    ((expansion exampleCfg .clear)[6]? = some (.wait .clear) ∧ cannotEnd (.wait .clear) [.ok] 0 ∧
      endsWell { ready (oks 5) with elapsed := 2 } ((expansion exampleCfg .clear).take 6) [.ok] 0) :=
  ⟨rfl, rfl, ⟨rfl, rfl⟩, ⟨rfl, rfl, rfl⟩, ⟨rfl, rfl, rfl⟩, ⟨.inl ⟨rfl, rfl⟩, rfl, rfl⟩, rfl, .inr ⟨rfl, rfl⟩, rfl, rfl⟩

theorem witness_UnansweredCallHoldsTheBlockForEver :
    (ready (oks 3)).rst = false ∧ (ready (oks 3)).cfg = exampleCfg ∧
    (expansion exampleCfg (.wrdat 0#8))[4]? = some (.wr .p1 0x01#8) ∧ (MicroOp.wr .p1 0x01#8).isPort = true ∧
    endsWell (ready (oks 3)) ((expansion exampleCfg (.wrdat 0#8)).take 4) [] 39 :=
  ⟨rfl, rfl, rfl, rfl, rfl, rfl⟩

theorem witness_LateAnswersGiveTheSameRun :
    (ready []).rst = false ∧ (∃ t, exec (.wrdat 0x41#8) (ready (oks 2)) = .next t ∧ t.seq ≠ .idle) ∧
    ∃ t, exec (.wrdat 0x41#8) { ready (oks 4) with elapsed := 1 } = .next t ∧ t.seq ≠ .idle :=
  ⟨rfl, ⟨_, rfl, by decide⟩, _, rfl, by decide⟩

theorem witness_OperationsDoNotDependOnHistory :
    let s : State := { ready (oks 4) with fail := true, addr := 7, trace := [] }
    s.cfg = (ready (oks 4)).cfg ∧ s.answers = (ready (oks 4)).answers ∧ s.elapsed = (ready (oks 4)).elapsed ∧
    (∃ t, exec .home s = .next t) ∧ ∃ t, exec .home (ready (oks 4)) = .next t :=
  ⟨rfl, rfl, rfl, ⟨_, rfl⟩, _, rfl⟩

/-- The positions: inside a strobe (its last micro-operation), and of each operation with operands. -/
theorem witness_LatchesHoldTheOperandsWhileAnOperationRuns :
    (∃ t, exec (.wrstr [0x48#8]) (ready (oks 3)) = .next t ∧ t.seq = .run (expansion exampleCfg (.wrstr [0x48#8])) 4) ∧
    ((expansion exampleCfg (.wrstr [0x48#8])).drop 0).take 5 =
      [.wr .p0 0x48#8, .wr .p1 0x01#8, .wr .p1 (0x01#8 ||| exampleCfg.enMask), .wait .en, .wr .p1 0x01#8] ∧
    (∃ t, exec (.setdisp true false) (ready []) = .next t ∧
      t.seq = .run (expansion exampleCfg (.setdisp true false)) 0) ∧
    ∃ t, exec (.setcur 4#4 19#8) (ready []) = .next t ∧ t.seq = .run (expansion exampleCfg (.setcur 4#4 19#8)) 0 :=
  ⟨⟨_, rfl, rfl⟩, by decide, ⟨_, rfl, rfl⟩, _, rfl, rfl⟩

theorem witness_FrameOfTheOperations :
    (∀ a, Instr.wrdat 0x41#8 ≠ .setaddr a) ∧ (∀ p, Instr.wrdat 0x41#8 ≠ .setpath p) ∧
    Instr.wrdat 0x41#8 ≠ .init ∧ (∃ t, exec (.wrdat 0x41#8) (ready (oks 4)) = .next t) ∧
    (∃ t, exec (.wrdat 0x41#8) (ready (oks 2)) = .next t ∧ t.seq ≠ .idle) ∧
    ∃ t, exec (.wrdat 0x41#8) (ready [.fail msgE]) = .next t ∧ t.fail = true :=
  ⟨by simp, by simp, by simp, ⟨_, rfl⟩, ⟨_, rfl, by decide⟩, _, rfl, rfl⟩

theorem witness_FailedWriteKeepsTheOtherPort :
    (ready []).cfg = exampleCfg ∧ Instr.wrstr [0x41#8] ≠ .init ∧
    ((expansion exampleCfg (.wrstr [0x41#8]))[0]? = some (.wr .p0 0x41#8) ∧
      endsWell (ready [.fail msgE]) ((expansion exampleCfg (.wrstr [0x41#8])).take 0) [.fail msgE] 40) ∧
    ((expansion exampleCfg (.wrstr [0x41#8]))[4]? = some (.wr .p1 0x01#8) ∧
      endsWell (ready (oks 3 ++ [.fail msgE])) ((expansion exampleCfg (.wrstr [0x41#8])).take 4) [.fail msgE] 39) ∧
    ((expansion exampleCfg .init)[2]? = some (.wr .p0 0x00#8) ∧
      endsWell (ready (oks 2 ++ [.fail msgE])) ((expansion exampleCfg .init).take 2) [.fail msgE] 40) ∧
    (expansion exampleCfg .init)[3]? = some (.wr .p1 0x00#8) ∧
      endsWell (ready (oks 3 ++ [.fail msgE])) ((expansion exampleCfg .init).take 3) [.fail msgE] 40 :=
  ⟨rfl, by simp, ⟨rfl, rfl, rfl⟩, ⟨rfl, rfl, rfl⟩, ⟨rfl, rfl, rfl⟩, rfl, rfl, rfl⟩

theorem witness_InitFailsAtItsPortModes :
    (ready [.fail msgE]).answers = .fail msgE :: [] ∧
    (ready [.ok, .fail msgE]).answers = .ok :: .fail msgE :: [] := by
  decide

theorem witness_FailureKindsAndTheirMessages :
    messagesDistinct (ready [.fail msgE]) ∧ (∃ t, exec (.wrdat 0#8) (ready [.fail msgE]) = .next t) ∧
    (∃ t, exec (.setcur 5#4 0#8) (ready [.fail msgE]) = .next t) ∧
    ∃ t, exec .failed (ready [.fail msgE]) = .next t :=
  ⟨by simp [messagesDistinct, ready, exampleCfg, msgE, State.resetWith], ⟨_, rfl⟩, ⟨_, rfl⟩, _, rfl⟩

theorem witness_FailIsStickyAndSetOnlyByFailures :
    (∃ t, step { ready [] with requests := [0x5000#16] } = .next t) ∧
    (∃ t, step { ready [] with requests := [0xA000#16] } = .next t) ∧
    ∃ t, step { ready [] with rst := true } = .next t :=
  ⟨⟨_, rfl⟩, ⟨_, rfl⟩, _, rfl⟩

theorem witness_SetcurInvalidLineFailsWithoutBusAccess :
    (0#4).toNat ∉ [1, 2, 3, 4] ∧ (5#4).toNat ∉ [1, 2, 3, 4] ∧ (15#4).toNat ∉ [1, 2, 3, 4] := by
  decide

theorem witness_WrdatWritesOneDataByte :
    (ready (oks 4)).answers = .ok :: .ok :: .ok :: .ok :: [] ∧ (ready (oks 4)).elapsed = 38 + 2 := by
  decide

theorem witness_WrcmdWritesOneCommandByte :
    (ready (oks 5)).answers = .ok :: .ok :: .ok :: .ok :: [.ok] ∧ (ready (oks 5)).elapsed = 38 + 2 := by
  decide

theorem witness_ClearAndHomeAddTheirOwnWait :
    (ready (oks 4)).answers = .ok :: .ok :: .ok :: .ok :: [] ∧ (ready (oks 4)).elapsed = 37 + 3 := by
  decide

theorem witness_SetdispWritesTheComposedByte :
    (ready (oks 4)).answers = .ok :: .ok :: .ok :: .ok :: [] ∧ (ready (oks 4)).elapsed = 38 + 2 := by
  decide

theorem witness_SetcurWritesTheLineAddress :
    (ready (oks 4)).answers = .ok :: .ok :: .ok :: .ok :: [] ∧ (ready (oks 4)).elapsed = 38 + 2 ∧
    ∀ line ∈ [1#4, 2#4, 3#4, 4#4], ∃ base,
      (line = 1#4 ∧ base = (ready (oks 4)).cfg.lineBase1) ∨ (line = 2#4 ∧ base = (ready (oks 4)).cfg.lineBase2) ∨
      (line = 3#4 ∧ base = (ready (oks 4)).cfg.lineBase3) ∨ (line = 4#4 ∧ base = (ready (oks 4)).cfg.lineBase4) := by
  refine ⟨by decide, by decide, ?_⟩
  simp

theorem witness_WrstrWritesEachByteInOrder :
    (ready []).answers = List.replicate (4 * ([] : List Byte).length) .ok ++ [] ∧
    (ready []).elapsed = 40 + 2 * ([] : List Byte).length ∧
    (ready (oks 8)).answers = List.replicate (4 * [0x48#8, 0x69#8].length) .ok ++ [] ∧
    (ready (oks 8)).elapsed = 36 + 2 * [0x48#8, 0x69#8].length := by
  decide

theorem witness_WrstrStopsAtTheFailingCharacter :
    (ready [.fail msgE]).answers =
      List.replicate (4 * ([] : List Byte).length + (0 : Fin 4).val) .ok ++ .fail msgE :: [] ∧
    (ready (oks 7 ++ [.fail msgE])).answers =
      List.replicate (4 * [0x48#8].length + (3 : Fin 4).val) .ok ++ .fail msgE :: [] ∧
    2 * ([] : List Byte).length + (if (0 : Fin 4).val = 3 then 1 else 0) ≤ (ready []).elapsed ∧
    2 * [0x48#8].length + (if (3 : Fin 4).val = 3 then 1 else 0) ≤ (ready []).elapsed := by
  decide

theorem witness_InitPerformsTheNineSteps :
    (ready (oks 52)).answers = List.replicate (36 + 4 * bannerLength (ready (oks 52)).cfg) .ok ++ [] ∧
    (ready (oks 52)).elapsed = 13 + (19 + 2 * bannerLength (ready (oks 52)).cfg) := by
  decide

theorem witness_ControlWordEncodesItsThreeLines : exampleCfg.masksOk = true := by decide

theorem witness_ControlPortGetsFourWordsAndNeverReads :
    MicroOp.wr .p1 0x05#8 ∈ expansion exampleCfg (.wrdat 0x41#8) ∧
    MicroOp.wr .p1 0x00#8 ∈ expansion exampleCfg .init ∧ exampleCfg.masksOk = true := by
  decide

theorem witness_OnlyInitSetsPortModes :
    MicroOp.mode .p1 ∈ expansion exampleCfg .init ∧ MicroOp.wait .boot ∈ expansion exampleCfg .init ∧
    MicroOp.wait .fset ∈ expansion exampleCfg .init := by
  decide

theorem witness_EnablePulseKeepsItsShape :
    exampleCfg.masksOk = true ∧ Instr.wrstr [0x41#8] ≠ .init ∧ enHigh exampleCfg 0x01#8 = false := by
  decide

theorem witness_DisplayReceivesTheBytesInOrder :
    (ready []).seq = .idle ∧ (ready []).busLost = false ∧
    (ready []).port0.dir = .output ∧ (ready []).port1.dir = .output ∧
    enHigh (ready []).cfg (ready []).port1.out = false ∧ (ready []).cfg.masksOk = true ∧
    endsWell (ready (oks 8)) (expansion exampleCfg (.wrstr [0x48#8, 0x69#8])) [] 36 ∧
    (∃ t, exec (.wrstr [0x48#8, 0x69#8]) (ready (oks 8)) = .next t) ∧
    endsWell (ready (oks 4)) (expansion exampleCfg (.wrcmd 0x01#8)) [] 38 ∧
    ∃ t, exec (.wrcmd 0x01#8) (ready (oks 4)) = .next t :=
  ⟨rfl, rfl, rfl, rfl, by decide, by decide, ⟨rfl, rfl⟩, ⟨_, rfl⟩, ⟨rfl, rfl⟩, _, rfl⟩

theorem witness_InitTellsTheDisplayItsSettings :
    (ready []).cfg.masksOk = true ∧ endsWell (ready (oks 52)) (expansion exampleCfg .init) [] 13 ∧
    ∃ t, exec .init (ready (oks 52)) = .next t :=
  ⟨by decide, ⟨rfl, rfl⟩, _, rfl⟩

theorem witness_NothingIsKnownToReachTheDisplayBeforeInit :
    let s : State := { State.resetWith exampleCfg with answers := oks 4, elapsed := 2 }
    Instr.wrdat 0x41#8 ≠ .init ∧ s.port0.dir = .unknown ∧
    (∃ t, exec (.wrdat 0x41#8) s = .next t ∧ t.seq = .idle) ∧
    ({ ready (oks 4) with busLost := true } : State).busLost = true ∧
    ∃ t, exec (.wrdat 0x41#8) { ready (oks 4) with busLost := true } = .next t ∧ t.seq = .idle :=
  ⟨by simp, rfl, ⟨_, rfl, rfl⟩, rfl, _, rfl, rfl⟩

/-- A reset, a step whose call fails, and a step from a lost bus on which every call is answered ok. -/
theorem witness_FromAFailedCallOnNothingIsClaimedUntilInit :
    (∃ t, step { busy [] with rst := true } = .next t) ∧
    (∃ t e, step (busy [.fail msgE]) = .next t ∧ t.trace = (busy []).trace ++ [e] ∧ e.answer ≠ .ok) ∧
    ∃ t l, step { busy (oks 2) with busLost := true } = .next t ∧ t.seq = .idle ∧ t.trace = (busy []).trace ++ l ∧
      ∀ e ∈ l, ∀ p, e.op = .mode p → e.answer ≠ .ok :=
  ⟨⟨_, rfl⟩, ⟨_, _, rfl, rfl, by decide⟩, _, _, rfl, rfl, rfl, by simp⟩

theorem witness_ABusThatIsNotLostCanBeUsed :
    (ready []).cfg.masksOk = true ∧ busReady (ready (oks 4)) ∧
    (∃ t, exec (.wrdat 0x41#8) (ready (oks 4)) = .next t ∧ t.seq = .idle ∧ t.busLost = false) ∧
    (∃ t, exec .init { ready (oks 52) with busLost := true } = .next t) ∧
    (after .init { ready (oks 52) with busLost := true }).seq = .idle ∧
    (after .init { ready (oks 52) with busLost := true }).busLost = false :=
  ⟨by decide, fun _ => ⟨rfl, rfl, by decide⟩, ⟨_, rfl, rfl, rfl⟩, ⟨_, rfl⟩, by decide +kernel, by decide +kernel⟩

theorem witness_LineAddressArithmetic : (0#8).toNat < Config.cols ∧ (19#8).toNat < Config.cols := by decide

theorem witness_InitSizeAndDuration : delayUs exampleCfg = delayUs Config.default := by
  funext c; cases c <;> rfl

theorem witness_ResetDropsTheOperationInProgress :
    ({ busy [] with rst := true } : State).rst = true ∧
    ({ busy [] with rst := true } : State).seq = .run (wrdatOps exampleCfg 0x41#8) 2 ∧
    ({ ready [] with rst := true } : State).seq = .idle ∧
    ({ busy [] with rst := true, addr := 7 } : State).addr ≠ exampleCfg.addrDefault := by
  decide

/-- A reset at a port call, and one during a WAIT. -/
theorem witness_ResetInTheMiddleLeavesThePortsAsAFailure :
    let s : State := { busy [] with rst := true }
    let s' : State := { s with seq := .run (wrdatOps exampleCfg 0x41#8) 5 }
    s.rst = true ∧ s.seq = .run (wrdatOps exampleCfg 0x41#8) 2 ∧
    (wrdatOps exampleCfg 0x41#8)[2]? = some (.wr .p1 0x05#8) ∧
    s.addr = s.cfg.addrDefault ∧ s.path = s.cfg.pathDefault ∧
    s'.seq = .run (wrdatOps exampleCfg 0x41#8) 5 ∧ (wrdatOps exampleCfg 0x41#8)[5]? = some (.wait .data) := by
  decide

/-- The invariant holds of a block in the middle of an operation, after a failure of an earlier one. -/
theorem witness_EveryStepKeepsTheInvariant :
    let s : State := { busy (oks 2) with fail := true, err := { kind := .transport, text := msgE } }
    Inv s ∧ ∃ t, step s = .next t := by
  refine ⟨⟨by simp [errInv], ⟨by decide, by decide⟩, ?_⟩, _, rfl⟩
  simp [traceInv, busy, ready, State.resetWith]

theorem witness_ReachableStatesMeetTheInvariant :
    Reachable State.reset ((((State.reset.offerWords [0x2000#16]).offerAnswers (oks 4)).offerElapsed 3).assertReset) :=
  .reset (.elapsed _ (.answers _ (.words _ .start)))

/-- One step from reset with a request presented: it runs (the row's word as the host asks for it). -/
theorem test_first_step_after_reset :
    ∃ t, step (State.reset.withFetchWord 16 0x2000) = .next t ∧ t.requests = [] ∧
      t.seq = .run (clearOps Config.default) 0 :=
  ⟨_, rfl, rfl, rfl⟩

end Sys2Proof.Tests
end

section
/-! The parameters of 00_scope.md section 5: the default configuration meets R5's constraints, and the composed command
bytes of R6 under the defaults. -/

namespace Sys2Proof.Machine

/-- R5: what a well-formed configuration is, by its two halves. -/
theorem wf_iff_masksOk_and_delaysOk (cfg : Params) :
    cfg.wf = true ↔ cfg.masksOk = true ∧ cfg.delaysOk = true := by
  simp [Params.wf]

theorem masksOk_default : Config.default.masksOk = true := by decide

theorem delaysOk_default : Config.default.delaysOk = true := by decide

theorem fsetByte_default : fsetByte Config.default = 0x38#8 := by decide

theorem entryByte_default : entryByte Config.default = 0x06#8 := by decide

/-- R96: with the defaults the cursor is bit 1 and blinking bit 0 of the command, over 0x0C. -/
theorem dispByte_default (cur blk : Bool) :
    dispByte Config.default cur blk = 0x0C#8 ||| orBit cur 0x02#8 ||| orBit blk 0x01#8 := by
  cases cur <;> cases blk <;> rfl

/-- R97, R99: with the defaults the DDRAM command is bit 7 over the 8-bit sum of line base and column. -/
theorem ddramByte_default (line : DisplayLine) (col : Byte) :
    ddramByte Config.default line col = 0x80#8 ||| (lineBase Config.default line + col) := rfl

/-- Settles O44: each byte by its value under the defaults; the column 200 of line 4 shows the carry dropped. -/
theorem composedBytesWithTheDefaults : Obligations.ComposedBytesWithTheDefaults := by
  unfold Obligations.ComposedBytesWithTheDefaults
  simp only [dispByte_default, ddramByte_default]
  exact ⟨fsetByte_default, entryByte_default, by decide⟩

/-- Settles O45: the masks and the delays of the default configuration each meet their constraint. -/
theorem defaultParametersMeetTheConstraints : Obligations.DefaultParametersMeetTheConstraints :=
  (wf_iff_masksOk_and_delaysOk Config.default).mpr ⟨masksOk_default, delaysOk_default⟩

end Sys2Proof.Machine
end

section
/-! The run loop of 10_state.md R14 as an inversion: where a list of micro-operations stops with the inputs there are,
and what the loop answers in each case. -/

namespace Sys2Proof.Machine

/-! ## What no run changes, field by field -/

@[simp] theorem runFrom_cfg (ops rest : List MicroOp) (i : Nat) (s : State) : (runFrom ops i rest s).cfg = s.cfg :=
  (runFrom_frame ops rest i s).1

@[simp] theorem runFrom_requests (ops rest : List MicroOp) (i : Nat) (s : State) :
    (runFrom ops i rest s).requests = s.requests := by
  obtain ⟨-, -, -, h, -⟩ := runFrom_frame ops rest i s
  exact h

@[simp] theorem runFrom_rst (ops rest : List MicroOp) (i : Nat) (s : State) : (runFrom ops i rest s).rst = s.rst := by
  obtain ⟨-, -, -, -, h⟩ := runFrom_frame ops rest i s
  exact h

theorem runOperation_requests (ops : List MicroOp) (l : Latches) (s : State) :
    (runOperation ops l s).requests = s.requests := runFrom_requests ..

theorem runOperation_rst (ops : List MicroOp) (l : Latches) (s : State) : (runOperation ops l s).rst = s.rst :=
  runFrom_rst ..

theorem step_of_run {s : State} {ops : List MicroOp} {i : Nat} (hr : s.rst = false) (hs : s.seq = .run ops i) :
    step s = .next (s.resume ops i) := by
  simp [step, hr, hs]

/-! ## Where a list stops -/

theorem waitCount_cons (m : MicroOp) (r : List MicroOp) :
    waitCount (m :: r) = waitCount r + if m.isPort then 0 else 1 := by
  cases m <;> rfl

theorem endsWell_nil (s : State) : endsWell s [] s.answers s.elapsed := by
  simp [endsWell, portCount, waitCount]

/-- Two lists end well one after the other, the second with the inputs the first leaves. -/
theorem endsWell_append {s : State} {a b : List MicroOp} {as as' : List Answer} {w w' : Nat}
    (ha : endsWell s a as w) (hb : endsWell { s with answers := as, elapsed := w } b as' w') :
    endsWell s (a ++ b) as' w' := by
  obtain ⟨ha, hw⟩ := ha
  obtain ⟨hb, hw'⟩ := hb
  dsimp only at hb hw'
  refine ⟨?_, ?_⟩
  · rw [ha, hb, portCount_append, List.replicate_add, List.append_assoc]
  · rw [hw, hw', waitCount_append]
    omega

/-- `endsWell` speaks of the inputs only. -/
theorem endsWell_congr {s s' : State} {ops : List MicroOp} {as : List Answer} {w : Nat}
    (ha : s.answers = s'.answers) (he : s.elapsed = s'.elapsed) (h : endsWell s ops as w) :
    endsWell s' ops as w :=
  ⟨ha ▸ h.1, he ▸ h.2⟩

theorem microOp_endsWell_or_fails_or_cannotEnd (m : MicroOp) (s : State) :
    (∃ as w, endsWell s [m] as w) ∨ (m.isPort = true ∧ ∃ msg as, s.answers = .fail msg :: as) ∨
      cannotEnd m s.answers s.elapsed := by
  cases hm : m.isPort with
  | true =>
    rcases ha : s.answers with _ | ⟨_ | msg, as⟩
    · exact .inr (.inr (.inl ⟨hm, rfl⟩))
    · exact .inl ⟨as, s.elapsed, by simp [endsWell, portCount_cons, waitCount_cons, hm, ha, portCount, waitCount]⟩
    · exact .inr (.inl ⟨rfl, msg, as, rfl⟩)
  | false =>
    rcases he : s.elapsed with _ | w
    · exact .inr (.inr (.inr ⟨hm, rfl⟩))
    · refine .inl ⟨s.answers, w, ?_⟩
      simp [endsWell, portCount_cons, waitCount_cons, hm, he, portCount, waitCount, Nat.add_comm]

/-- With the inputs there are a list ends well, or has a first call answered fail, or a first micro-operation that
cannot end yet. -/
theorem endsWell_or_fails_or_waits (ops : List MicroOp) (s : State) :
    (∃ as w, endsWell s ops as w) ∨
    (∃ n m msg as w, ops[n]? = some m ∧ m.isPort = true ∧ endsWell s (ops.take n) (.fail msg :: as) w) ∨
    (∃ n m as w, ops[n]? = some m ∧ cannotEnd m as w ∧ endsWell s (ops.take n) as w) := by
  induction ops generalizing s with
  | nil => exact .inl ⟨_, _, endsWell_nil s⟩
  | cons m ops ih =>
    rcases microOp_endsWell_or_fails_or_cannotEnd m s with ⟨as, w, hm⟩ | ⟨hp, msg, as, ha⟩ | hc
    · rcases ih { s with answers := as, elapsed := w } with
        ⟨as', w', h⟩ | ⟨n, m', msg, as', w', hn, hp, h⟩ | ⟨n, m', as', w', hn, hc, h⟩
      · exact .inl ⟨as', w', endsWell_append hm h⟩
      · exact .inr (.inl ⟨n + 1, m', msg, as', w', hn, hp, endsWell_append hm h⟩)
      · exact .inr (.inr ⟨n + 1, m', as', w', hn, hc, endsWell_append hm h⟩)
    · exact .inr (.inl ⟨0, m, msg, as, s.elapsed, rfl, hp, ha ▸ endsWell_nil s⟩)
    · exact .inr (.inr ⟨0, m, s.answers, s.elapsed, rfl, hc, endsWell_nil s⟩)

/-! ## The three endings of the loop -/

/-- The result of any list whose micro-operations all end well, but for the ports. -/
theorem runFrom_completes (ops rest : List MicroOp) (as : List Answer) (w i : Nat) (s : State)
    (h : endsWell s rest as w) :
    (runFrom ops i rest s).trace = s.trace ++ okEvents s rest ∧
      (runFrom ops i rest s).seq = .idle ∧ (runFrom ops i rest s).latches = Latches.empty ∧
      (runFrom ops i rest s).answers = as ∧ (runFrom ops i rest s).elapsed = w ∧
      (runFrom ops i rest s).fail = s.fail ∧ (runFrom ops i rest s).err = s.err ∧
      (runFrom ops i rest s).responses = s.responses ++ [{ code := .ok, value := .none }] := by
  obtain ⟨u, hu, ua, ue, ut, -, uf, uerr, -, -, -, ur, -⟩ := runFrom_prefix ops [] as w rest i s h
  rw [List.append_nil, runFrom_nil] at hu
  simp [hu, ua, ue, ut, uf, uerr, ur]

/-- `runFrom_cases` says everything a run of `rest` from position `i` can end in, but for the ports and the inputs: it
ends well, or a call fails, or it waits. -/
theorem runFrom_cases (ops rest : List MicroOp) (i : Nat) (s : State) :
    ((runFrom ops i rest s).trace = s.trace ++ okEvents s rest ∧
      (runFrom ops i rest s).seq = .idle ∧ (runFrom ops i rest s).latches = Latches.empty ∧
      (runFrom ops i rest s).fail = s.fail ∧ (runFrom ops i rest s).err = s.err ∧
      (runFrom ops i rest s).responses = s.responses ++ [{ code := .ok, value := .none }]) ∨
    (∃ n m msg, rest[n]? = some m ∧ m.isPort = true ∧
      (runFrom ops i rest s).trace = s.trace ++ okEvents s (rest.take n) ++
        [{ op := m, answer := .fail msg, addr := s.addr, path := s.path }] ∧
      (runFrom ops i rest s).seq = .idle ∧ (runFrom ops i rest s).latches = Latches.empty ∧
      (runFrom ops i rest s).fail = true ∧ (runFrom ops i rest s).err = { kind := .transport, text := msg } ∧
      (runFrom ops i rest s).responses = s.responses ++ [{ code := .fail, value := .none }]) ∨
    (∃ n m, rest[n]? = some m ∧
      (runFrom ops i rest s).trace = s.trace ++ okEvents s (rest.take n) ∧
      (runFrom ops i rest s).seq = .run ops (i + n) ∧
      (runFrom ops i rest s).fail = s.fail ∧ (runFrom ops i rest s).err = s.err ∧
      (runFrom ops i rest s).responses = s.responses) := by
  rcases endsWell_or_fails_or_waits rest s with
    ⟨as, w, h⟩ | ⟨n, m, msg, as, w, hn, hp, h⟩ | ⟨n, m, as, w, hn, hc, h⟩
  · obtain ⟨ht, hs, hl, -, -, hf, he, hr⟩ := runFrom_completes ops rest as w i s h
    exact .inl ⟨ht, hs, hl, hf, he, hr⟩
  · obtain ⟨hcut, -⟩ := cut_at hn
    obtain ⟨ht, hs, hl, -, -, hf, he, -, -, hr⟩ := runFrom_fails ops _ (rest.drop (n + 1)) m msg as w i s hp h
    rw [← hcut] at ht hs hl hf he hr
    exact .inr (.inl ⟨n, m, msg, hn, hp, ht, hs, hl, hf, he, hr⟩)
  · obtain ⟨hcut, hlen⟩ := cut_at hn
    obtain ⟨ht, hs, -, -, hf, he, hr⟩ := runFrom_waits ops _ (rest.drop (n + 1)) m as w i s hc h
    rw [← hcut] at ht hs hf he hr
    exact .inr (.inr ⟨n, m, hn, ht, hlen ▸ hs, hf, he, hr⟩)

theorem runFrom_seq_cases (ops rest : List MicroOp) (i : Nat) (s : State) :
    (runFrom ops i rest s).seq = .idle ∨ ∃ n, (runFrom ops i rest s).seq = .run ops n := by
  rcases runFrom_cases ops rest i s with ⟨-, hs, -⟩ | ⟨n, m, msg, -, -, -, hs, -⟩ | ⟨n, m, -, -, hs, -⟩
  · exact .inl hs
  · exact .inl hs
  · exact .inr ⟨_, hs⟩

/-! ## Late inputs -/

/-- The inputs of O14 given to a state: more answers, more elapsed WAITs. -/
def State.offerInputs (bs : List Answer) (v : Nat) (s : State) : State :=
  (s.offerAnswers bs).offerElapsed v

theorem State.offerInputs_none (s : State) : s.offerInputs [] 0 = s := by
  simp [State.offerInputs, State.offerAnswers, State.offerElapsed]

/-- A micro-operation that ends well does the same when more inputs follow. -/
theorem perform_offerInputs {m : MicroOp} {s s' : State} (bs : List Answer) (v : Nat)
    (h : perform m s = .done s') : perform m (s.offerInputs bs v) = .done (s'.offerInputs bs v) := by
  rcases perform_cases m s with
    ⟨c, n, rfl, hn, e⟩ | ⟨p, as, rfl, ha, e⟩ | ⟨p, b, as, rfl, ha, e⟩ | ⟨_, _, _, _, _, e⟩ | ⟨_, e⟩ <;>
    rw [h] at e <;> cases e
  · refine perform_wait_done c _ (n + v) ?_
    simp only [State.offerInputs, State.offerAnswers, State.offerElapsed, hn]
    omega
  · rw [perform_mode_ok p _ (as ++ bs) (by simp [State.offerInputs, State.offerAnswers, State.offerElapsed, ha])]
    cases p <;> rfl
  · rw [perform_wr_ok p b _ (as ++ bs) (by simp [State.offerInputs, State.offerAnswers, State.offerElapsed, ha])]
    cases p <;> rfl

theorem State.offerInputs_atPosition (s : State) (ops rest : List MicroOp) (i : Nat) (bs : List Answer) (v : Nat) :
    (s.atPosition ops i rest).offerInputs bs v = (s.offerInputs bs v).atPosition ops i rest := rfl

theorem runFrom_atPosition (ops rest : List MicroOp) (i : Nat) (m : MicroOp) (s : State) :
    runFrom ops i (m :: rest) (s.atPosition ops i (m :: rest)) = runFrom ops i (m :: rest) s := by
  simp only [runFrom, State.atPosition_atPosition]

/-- A loop that waits at position `n` and goes on with more inputs ends as it does with all of them at once. -/
theorem resume_offerInputs_runFrom (ops : List MicroOp) (bs : List Answer) (v n : Nat) (rest : List MicroOp) :
    ∀ (i : Nat) (s : State), ops.drop i = rest → (runFrom ops i rest s).seq = .run ops n →
      ((runFrom ops i rest s).offerInputs bs v).resume ops n = runFrom ops i rest (s.offerInputs bs v) := by
  induction rest with
  | nil => intro i s _ hseq; simp [runFrom_nil] at hseq
  | cons m rest ih =>
    intro i s hdrop hseq
    cases hp : perform m (s.atPosition ops i (m :: rest)) with
    | done s' =>
      have hrest : ops.drop (i + 1) = rest := by rw [← List.tail_drop, hdrop, List.tail_cons]
      rw [runFrom_done hp] at hseq ⊢
      rw [ih (i + 1) s' hrest hseq]
      have hp' := perform_offerInputs bs v hp
      rw [State.offerInputs_atPosition] at hp'
      exact (runFrom_done hp').symm
    | failed s' => simp [runFrom_failed hp] at hseq
    | pending =>
      rw [runFrom_pending hp] at hseq ⊢
      obtain rfl : i = n := by simpa using hseq
      rw [State.resume, hdrop, State.offerInputs_atPosition, runFrom_atPosition]

/-- With no new input a waiting loop that goes on stays where it is. -/
theorem resume_runFrom_self {ops : List MicroOp} {n : Nat} {s : State} (h : (runFrom ops 0 ops s).seq = .run ops n) :
    (runFrom ops 0 ops s).resume ops n = runFrom ops 0 ops s := by
  have hresume := resume_offerInputs_runFrom ops [] 0 n ops 0 s List.drop_zero h
  rwa [State.offerInputs_none, State.offerInputs_none] at hresume

end Sys2Proof.Machine
end

section
/-! `exec` by the kind of the operation, and R14 for every operation. -/

namespace Sys2Proof.Machine

/-! ## What `exec` is, by the kind of the operation -/

/-- An operation that neither fails at its line nor touches the block's own registers only is a run of its expansion. -/
theorem exec_eq_runOperation {i : Instr} (hi : invalidLineRequest i = false) (hr : registersOnly i = false)
    (s : State) : exec i s = .next (runOperation (expansion s.cfg i) (operandLatches i) s) := by
  rcases exec_cases i s with ⟨e, -⟩ | ⟨-, -, e, -⟩ | ⟨rfl, -⟩ | ⟨rfl, -⟩ | ⟨a, rfl, -⟩ | ⟨p, rfl, -⟩
  · exact e
  · simp [hi] at e
  all_goals simp [registersOnly] at hr

/-- An operation with a micro-operation is a run of its expansion. -/
theorem exec_of_getElem? {i : Instr} {s : State} {n : Nat} {m : MicroOp} (h : (expansion s.cfg i)[n]? = some m) :
    exec i s = .next (runOperation (expansion s.cfg i) (operandLatches i) s) := by
  rcases exec_cases i s with ⟨e, -⟩ | ⟨-, e, -⟩ | ⟨rfl, -⟩ | ⟨rfl, -⟩ | ⟨a, rfl, -⟩ | ⟨p, rfl, -⟩
  · exact e
  · simp [e] at h
  all_goals simp [expansion] at h

theorem exec_invalidLine {i : Instr} (h : invalidLineRequest i = true) (s : State) :
    exec i s = .next (s.raiseFailure .invalidLine s.cfg.msgInvalidLine) := by
  rcases exec_cases i s with ⟨-, e, -⟩ | ⟨e, -⟩ | ⟨rfl, -⟩ | ⟨rfl, -⟩ | ⟨a, rfl, -⟩ | ⟨p, rfl, -⟩
  · simp [e] at h
  · exact e
  all_goals simp [invalidLineRequest] at h

/-- An operation that leaves SEQ in RUN is a run of its expansion. -/
theorem exec_of_seq_ne_idle {i : Instr} {s t : State} (h : exec i s = .next t) (ht : t.seq ≠ .idle) :
    t = runOperation (expansion s.cfg i) (operandLatches i) s ∧
      invalidLineRequest i = false ∧ registersOnly i = false := by
  rcases exec_cases i s with ⟨e, hi, hr, -⟩ | ⟨e, -⟩ | ⟨-, e⟩ | ⟨-, e⟩ | ⟨a, -, e⟩ | ⟨p, -, e⟩ <;>
    rw [h] at e <;> cases e
  · exact ⟨rfl, hi, hr⟩
  all_goals simp at ht

/-! ## R14, one theorem per ending -/

theorem exec_endsWell (i : Instr) (s : State) (hi : invalidLineRequest i = false) (as : List Answer) (w : Nat)
    (h : endsWell s (expansion s.cfg i) as w) :
    ∃ t, exec i s = .next t ∧ t.trace = s.trace ++ okEvents s (expansion s.cfg i) ∧
      t.seq = .idle ∧ t.latches = Latches.empty ∧ t.answers = as ∧ t.elapsed = w ∧
      t.fail = s.fail ∧ t.err = s.err ∧ t.requests = s.requests ∧
      t.responses = s.responses ++ [{ code := .ok, value := okValue s i }] := by
  have hnil (he : expansion s.cfg i = []) : s.answers = as ∧ s.elapsed = w := by
    simpa [endsWell, he, portCount, waitCount] using h
  rcases exec_cases i s with ⟨e, -, -, hv⟩ | ⟨-, -, h', -⟩ | ⟨rfl, e⟩ | ⟨rfl, e⟩ | ⟨a, rfl, e⟩ | ⟨p, rfl, e⟩
  · refine ⟨_, e, ?_⟩
    obtain ⟨ht, hs, hl, ha, he, hf, herr, hr⟩ := runFrom_completes (expansion s.cfg i) (expansion s.cfg i) as w 0
      { s with latches := operandLatches i } h
    exact ⟨ht, hs, hl, ha, he, hf, herr, runOperation_requests .., hv ▸ hr⟩
  · simp [hi] at h'
  all_goals
    obtain ⟨ha, he⟩ := hnil rfl
    exact ⟨_, e, by simp [expansion, okEvents, okValue, ha, he]⟩

theorem exec_fails (i : Instr) (s : State) (n : Nat) (m : MicroOp) (msg : List Byte) (as : List Answer) (w : Nat)
    (hn : (expansion s.cfg i)[n]? = some m) (hm : m.isPort = true)
    (h : endsWell s ((expansion s.cfg i).take n) (.fail msg :: as) w) :
    ∃ t, exec i s = .next t ∧
      t.trace = s.trace ++ okEvents s ((expansion s.cfg i).take n) ++
        [{ op := m, answer := .fail msg, addr := s.addr, path := s.path }] ∧
      t.seq = .idle ∧ t.latches = Latches.empty ∧ t.answers = as ∧ t.elapsed = w ∧
      t.fail = true ∧ t.err = { kind := .transport, text := msg } ∧ t.requests = s.requests ∧
      t.responses = s.responses ++ [{ code := .fail, value := .none }] := by
  refine ⟨_, exec_of_getElem? hn, ?_⟩
  obtain ⟨ht, hs, hl, ha, he, hf, herr, -, -, hr⟩ := runFrom_fails (expansion s.cfg i) _
    ((expansion s.cfg i).drop (n + 1)) m msg as w 0 { s with latches := operandLatches i } hm h
  rw [← (cut_at hn).1] at ht hs hl ha he hf herr hr
  exact ⟨ht, hs, hl, ha, he, hf, herr, runOperation_requests .., hr⟩

theorem exec_waits (i : Instr) (s : State) (n : Nat) (m : MicroOp) (as : List Answer) (w : Nat)
    (hn : (expansion s.cfg i)[n]? = some m) (hm : cannotEnd m as w)
    (h : endsWell s ((expansion s.cfg i).take n) as w) :
    ∃ t, exec i s = .next t ∧
      t.trace = s.trace ++ okEvents s ((expansion s.cfg i).take n) ∧
      t.seq = .run (expansion s.cfg i) n ∧ t.answers = as ∧ t.elapsed = w ∧
      t.fail = s.fail ∧ t.err = s.err ∧ t.responses = s.responses ∧
      (s.rst = false → step t = .next t) := by
  refine ⟨_, exec_of_getElem? hn, ?_⟩
  obtain ⟨ht, hs, ha, he, hf, herr, hr⟩ := runFrom_waits (expansion s.cfg i) _
    ((expansion s.cfg i).drop (n + 1)) m as w 0 { s with latches := operandLatches i } hm h
  rw [← (cut_at hn).1] at ht hs ha he hf herr hr
  rw [(cut_at hn).2, Nat.zero_add] at hs
  refine ⟨ht, hs, ha, he, hf, herr, hr, fun hrst => ?_⟩
  have hstep := step_of_run ((runOperation_rst (expansion s.cfg i) (operandLatches i) s).trans hrst) hs
  exact hstep.trans (congrArg Host.Outcome.next (resume_runFrom_self hs))

/-- Settles O12: the three endings of the run loop, for every operation. -/
theorem operationsRunInOrderAndStopAtTheFirstFailure :
    Obligations.OperationsRunInOrderAndStopAtTheFirstFailure := fun i s hi =>
  ⟨exec_endsWell i s hi, exec_fails i s, exec_waits i s⟩

/-! ## R19 -/

/-- The performed micro-operations with their answers, as R19 compares them. -/
theorem okEvents_map_op_answer (s : State) (ops : List MicroOp) :
    (okEvents s ops).map (fun e => (e.op, e.answer)) = ops.map fun m => (m, .ok) := by
  simp [okEvents, Function.comp_def]

/-- Settles O15: which of the endings an operation has, and where, is decided by its expansion and the inputs. -/
theorem operationsDoNotDependOnHistory : Obligations.OperationsDoNotDependOnHistory := by
  intro i s s' t t' hcfg ha he ht ht'
  cases hi : invalidLineRequest i with
  | true =>
    rw [exec_invalidLine hi] at ht ht'
    cases ht
    cases ht'
    exact ⟨[], [], _, _, by simp, by simp, rfl, rfl, rfl, rfl, rfl, ha, he⟩
  | false =>
    rcases endsWell_or_fails_or_waits (expansion s.cfg i) s with
      ⟨as, w, h⟩ | ⟨n, m, msg, as, w, hn, hm, h⟩ | ⟨n, m, as, w, hn, hm, h⟩
    · obtain ⟨u, hu, tr, sq, -, an, el, -, -, -, rs⟩ := exec_endsWell i s hi as w h
      obtain ⟨u', hu', tr', sq', -, an', el', -, -, -, rs'⟩ :=
        exec_endsWell i s' hi as w (hcfg ▸ endsWell_congr ha he h)
      cases ht.symm.trans hu
      cases ht'.symm.trans hu'
      exact ⟨_, _, _, _, tr, tr', by simp only [okEvents_map_op_answer, hcfg], rs, rs', rfl, by rw [sq, sq'],
        by rw [an, an'], by rw [el, el']⟩
    · obtain ⟨u, hu, tr, sq, -, an, el, -, -, -, rs⟩ := exec_fails i s n m msg as w hn hm h
      obtain ⟨u', hu', tr', sq', -, an', el', -, -, -, rs'⟩ :=
        exec_fails i s' n m msg as w (hcfg ▸ hn) hm (hcfg ▸ endsWell_congr ha he h)
      cases ht.symm.trans hu
      cases ht'.symm.trans hu'
      rw [List.append_assoc] at tr tr'
      exact ⟨_, _, _, _, tr, tr',
        by simp only [List.map_append, okEvents_map_op_answer, hcfg, List.map_cons, List.map_nil],
        rs, rs', rfl, by rw [sq, sq'], by rw [an, an'], by rw [el, el']⟩
    · obtain ⟨u, hu, tr, sq, an, el, -, -, rs, -⟩ := exec_waits i s n m as w hn hm h
      obtain ⟨u', hu', tr', sq', an', el', -, -, rs', -⟩ :=
        exec_waits i s' n m as w (hcfg ▸ hn) hm (hcfg ▸ endsWell_congr ha he h)
      cases ht.symm.trans hu
      cases ht'.symm.trans hu'
      exact ⟨_, _, [], [], tr, tr', by simp only [okEvents_map_op_answer, hcfg], by simp [rs], by simp [rs'], rfl,
        by rw [sq, sq', hcfg], by rw [an, an'], by rw [el, el']⟩

/-! ## Late inputs (10_state.md R14, 20_memory.md R40) -/

/-- Settles O14: the loop resumed with late inputs is the loop with all of them at once. -/
theorem lateAnswersGiveTheSameRun : Obligations.LateAnswersGiveTheSameRun := by
  intro i s t bs v hrst ht hseq
  obtain ⟨rfl, hi, hr⟩ := exec_of_seq_ne_idle ht hseq
  obtain ⟨n, hn⟩ := (runFrom_seq_cases ..).resolve_left hseq
  have hresume := resume_offerInputs_runFrom (expansion s.cfg i) bs v n _ 0
    { s with latches := operandLatches i } rfl hn
  have hstep := step_of_run (s := (runOperation (expansion s.cfg i) (operandLatches i) s).offerInputs bs v)
    ((runOperation_rst ..).trans hrst) hn
  calc step ((runOperation (expansion s.cfg i) (operandLatches i) s).offerInputs bs v)
    _ = .next (runOperation (expansion s.cfg i) (operandLatches i) (s.offerInputs bs v)) :=
      hstep.trans (congrArg Host.Outcome.next hresume)
    _ = exec i (s.offerInputs bs v) := (exec_eq_runOperation hi hr (s.offerInputs bs v)).symm

end Sys2Proof.Machine
end

section
/-! The invariant of the machine: every micro-operation of every expansion is lawful, and every step keeps `Inv`. -/

namespace Sys2Proof.Machine

/-! ## Lawful micro-operations (30_encoding.md R65) -/

@[simp] theorem dataWrite_all_lawful (cfg : Params) (b : Byte) :
    (dataWrite cfg b).all (MicroOp.lawful cfg) = true := by
  simp [dataWrite, MicroOp.lawful, ctrlWords]

@[simp] theorem commandWrite_all_lawful (cfg : Params) (b : Byte) :
    (commandWrite cfg b).all (MicroOp.lawful cfg) = true := by
  simp [commandWrite, MicroOp.lawful, ctrlWords]

@[simp] theorem text_all_lawful (cfg : Params) (text : List Byte) :
    (text.flatMap (dataWrite cfg)).all (MicroOp.lawful cfg) = true := by
  rw [List.all_flatMap]
  exact List.all_eq_true.2 fun b _ => dataWrite_all_lawful cfg b

@[simp] theorem wait_all_lawful (cfg : Params) (c : DelayClass) :
    [MicroOp.wait c].all (MicroOp.lawful cfg) = true := rfl

@[simp] theorem initPortOps_all_lawful (cfg : Params) : initPortOps.all (MicroOp.lawful cfg) = true := by
  simp [initPortOps, MicroOp.lawful, ctrlWords]

theorem initOps_all_lawful (cfg : Params) : (initOps cfg).all (MicroOp.lawful cfg) = true := by
  simp only [initOps, initCommandOps, initBannerOps, bannerEntryOps, setcurOps, setdispOps, clearOps, wrcmdOps_eq,
    wrstrOps_eq, List.all_append, initPortOps_all_lawful, commandWrite_all_lawful, text_all_lawful, wait_all_lawful,
    Bool.and_self]

/-- R65 for every operation: a byte its expansion writes to port 1 is a control word. -/
theorem expansion_lawful (cfg : Params) (i : Instr) : ∀ m ∈ expansion cfg i, m.lawful cfg = true := by
  refine List.all_eq_true.1 ?_
  cases i with
  | init => exact initOps_all_lawful cfg
  | clear => simp only [expansion, clearOps, wrcmdOps_eq, List.all_append, commandWrite_all_lawful, wait_all_lawful,
      Bool.and_self]
  | home => simp only [expansion, homeOps, wrcmdOps_eq, List.all_append, commandWrite_all_lawful, wait_all_lawful,
      Bool.and_self]
  | setdisp cur blk => simp only [expansion, setdispOps, wrcmdOps_eq, commandWrite_all_lawful]
  | setcur line col =>
    cases h : lineOf line.toNat with
    | none => simp [expansion, h]
    | some l => simp only [expansion, h, setcurOps, wrcmdOps_eq, commandWrite_all_lawful]
  | wrstr text => simp only [expansion, wrstrOps_eq, text_all_lawful]
  | wrcmd b => simp only [expansion, wrcmdOps_eq, commandWrite_all_lawful]
  | wrdat b => simp only [expansion, wrdatOps_eq, dataWrite_all_lawful]
  | geterr => rfl
  | failed => rfl
  | setaddr a => rfl
  | setpath p => rfl

/-! ## The parts of the invariant -/

theorem errInv_of_same {s t : State} (hc : t.cfg = s.cfg) (hf : t.fail = s.fail) (he : t.err = s.err)
    (h : errInv s) : errInv t := by
  simpa only [errInv, hc, hf, he] using h

/-- A recorded failure is one of the two kinds, and an invalid line carries the fixed message (60_exceptions.md
R130). -/
theorem errInv_of_failure {t : State} {k : FailureKind} {msg : List Byte} (hf : t.fail = true)
    (he : t.err = { kind := k, text := msg }) (hk : k ≠ .none) (hm : k = .invalidLine → msg = t.cfg.msgInvalidLine) :
    errInv t := by
  refine ⟨?_, ?_, ?_⟩
  · simp [hf, he, hk]
  · simp [he, hk]
  · rw [he]
    exact hm

theorem traceInv_append {s t : State} {l : List Event} (hc : t.cfg = s.cfg) (ht : t.trace = s.trace ++ l)
    (h : traceInv s) (hl : ∀ e ∈ l, e.op.lawful s.cfg = true ∧ (e.op.isPort = false → e.answer = .ok)) :
    traceInv t := by
  intro e he
  rw [ht] at he
  rw [hc]
  exact (List.mem_append.1 he).elim (h e) (hl e)

theorem okEvents_lawful {cfg : Params} (s : State) {ops : List MicroOp} (h : ∀ m ∈ ops, m.lawful cfg = true) :
    ∀ e ∈ okEvents s ops, e.op.lawful cfg = true ∧ (e.op.isPort = false → e.answer = .ok) := by
  intro e he
  obtain ⟨m, hm, rfl⟩ := List.mem_map.1 he
  exact ⟨h m hm, fun _ => rfl⟩

theorem inv_of_idle {t : State} (he : errInv t) (ht : traceInv t) (hs : t.seq = .idle)
    (hl : t.latches = Latches.empty) : Inv t :=
  ⟨he, by simpa only [seqInv, hs] using hl, ht⟩

/-! ## Every way of going on keeps the invariant -/

/-- The loop, from a position of a lawful list, keeps the invariant. -/
theorem runFrom_inv (ops : List MicroOp) (i : Nat) (s : State) (he : errInv s) (ht : traceInv s)
    (hops : ∀ m ∈ ops, m.lawful s.cfg = true) : Inv (runFrom ops i (ops.drop i) s) := by
  have hcfg : (runFrom ops i (ops.drop i) s).cfg = s.cfg := runFrom_cfg ..
  have hrest : ∀ m ∈ ops.drop i, m.lawful s.cfg = true := fun m hm => hops m (List.mem_of_mem_drop hm)
  have htake (n : Nat) : ∀ m ∈ (ops.drop i).take n, m.lawful s.cfg = true :=
    fun m hm => hrest m (List.mem_of_mem_take hm)
  rcases runFrom_cases ops (ops.drop i) i s with
    ⟨tr, sq, la, fa, er, -⟩ | ⟨n, m, msg, hn, hm, tr, sq, la, fa, er, -⟩ | ⟨n, m, hn, tr, sq, fa, er, -⟩
  · exact inv_of_idle (errInv_of_same hcfg fa er he) (traceInv_append hcfg tr ht (okEvents_lawful s hrest)) sq la
  · have hlast : m.lawful s.cfg = true := hrest m (List.mem_of_getElem? hn)
    rw [List.append_assoc] at tr
    refine inv_of_idle (errInv_of_failure fa er nofun nofun)
      (traceInv_append hcfg tr ht (List.forall_mem_append.2 ⟨okEvents_lawful s (htake n), ?_⟩)) sq la
    simp [hlast, hm]
  · have hlt : i + n < ops.length := by
      obtain ⟨hlt, -⟩ := List.getElem?_eq_some_iff.1 hn
      rw [List.length_drop] at hlt
      omega
    refine ⟨errInv_of_same hcfg fa er he, ?_, traceInv_append hcfg tr ht (okEvents_lawful s (htake n))⟩
    simpa only [seqInv, sq, hcfg] using ⟨hlt, hops⟩

theorem exec_inv {i : Instr} {s t : State} (he : errInv s) (ht : traceInv s) (h : exec i s = .next t) : Inv t := by
  rcases exec_cases i s with ⟨e, -⟩ | ⟨e, -⟩ | ⟨-, e⟩ | ⟨-, e⟩ | ⟨a, -, e⟩ | ⟨p, -, e⟩ <;> rw [h] at e <;> cases e
  · exact runFrom_inv (expansion s.cfg i) 0 { s with latches := operandLatches i } he ht (expansion_lawful s.cfg i)
  · exact inv_of_idle (errInv_of_failure rfl rfl nofun fun _ => rfl) ht rfl rfl
  all_goals
    refine inv_of_idle (errInv_of_same (s := s) ?_ ?_ ?_ he) (traceInv_append (l := []) ?_ ?_ ht nofun) rfl rfl <;>
      simp

/-- Settles O51, along the five things a step can be. -/
theorem everyStepKeepsTheInvariant : Obligations.EveryStepKeepsTheInvariant := by
  rintro s t ⟨he, hs, ht⟩ h
  rcases step_cases s with
    ⟨-, e⟩ | ⟨-, ops, i, hseq, e⟩ | ⟨-, -, -, e⟩ | ⟨-, hseq, why, rest, -, e⟩ | ⟨-, -, i, rest, -, e⟩
  · cases h.symm.trans e
    exact inv_of_idle (by simp [errInv]) (traceInv_append (l := []) (by simp) (by simp) ht nofun) rfl rfl
  · cases h.symm.trans e
    rw [seqInv, hseq] at hs
    exact runFrom_inv ops i s he ht hs.2
  · cases h.symm.trans e
    exact ⟨he, hs, ht⟩
  · cases h.symm.trans e
    rw [seqInv, hseq] at hs
    exact inv_of_idle he ht hseq hs
  · exact exec_inv (s := s.acceptRequest rest) he ht (e ▸ h)

/-- Settles O52: no failure is recorded, SEQ is IDLE, and nothing has been performed. -/
theorem resetMeetsTheInvariant : Obligations.ResetMeetsTheInvariant :=
  inv_of_idle (by simp [errInv, State.reset, State.resetWith]) nofun rfl rfl

/-- Settles O48: each field of `State.resetWith`, as it is defined. -/
theorem resetLeavesTheResetValues : Obligations.ResetLeavesTheResetValues :=
  ⟨fun _ => ⟨rfl, rfl, rfl, rfl, rfl, rfl, rfl, rfl, rfl⟩, rfl⟩

/-! ## FAIL and ERR -/

/-- 10_state.md R15: FAIL and ERR are as they were and no response FAIL was given, or a failure was recorded and the one
response FAIL given. -/
def FailKeptOrRaised (s t : State) : Prop :=
  (t.fail = s.fail ∧ t.err = s.err ∧ ∃ l, t.responses = s.responses ++ l ∧ ∀ r ∈ l, r.code ≠ .fail) ∨
    (t.fail = true ∧ t.err.kind ≠ .none ∧ t.responses = s.responses ++ [{ code := .fail, value := .none }])

theorem runFrom_failKeptOrRaised (ops rest : List MicroOp) (i : Nat) (s : State) :
    FailKeptOrRaised s (runFrom ops i rest s) := by
  rcases runFrom_cases ops rest i s with
    ⟨-, -, -, fa, er, re⟩ | ⟨n, m, msg, -, -, -, -, -, fa, er, re⟩ | ⟨n, m, -, -, -, fa, er, re⟩
  · exact .inl ⟨fa, er, _, re, by simp⟩
  · exact .inr ⟨fa, by simp [er], re⟩
  · exact .inl ⟨fa, er, [], by simp [re], nofun⟩

theorem exec_failKeptOrRaised {i : Instr} {s t : State} (h : exec i s = .next t) : FailKeptOrRaised s t := by
  rcases exec_cases i s with ⟨e, -⟩ | ⟨e, -⟩ | ⟨-, e⟩ | ⟨-, e⟩ | ⟨a, -, e⟩ | ⟨p, -, e⟩ <;> rw [h] at e <;> cases e
  · exact runFrom_failKeptOrRaised (expansion s.cfg i) _ 0 { s with latches := operandLatches i }
  · exact .inr ⟨rfl, nofun, rfl⟩
  all_goals exact .inl ⟨by simp, by simp, _, by simp; rfl, by simp⟩

/-- Settles O21, along the five things a step can be. -/
theorem failIsStickyAndSetOnlyByFailures : Obligations.FailIsStickyAndSetOnlyByFailures := by
  intro s t h
  rcases step_cases s with
    ⟨hr, e⟩ | ⟨hr, ops, i, -, e⟩ | ⟨hr, -, -, e⟩ | ⟨hr, -, why, rest, -, e⟩ | ⟨hr, -, i, rest, -, e⟩
  · cases h.symm.trans e
    exact ⟨by simp [hr], fun _ => rfl⟩
  all_goals refine ⟨fun _ => ?_, by simp [hr]⟩
  · cases h.symm.trans e
    exact runFrom_failKeptOrRaised ops _ i s
  · cases h.symm.trans e
    exact .inl ⟨rfl, rfl, [], by simp, nofun⟩
  · cases h.symm.trans e
    exact .inl ⟨rfl, rfl, _, rfl, by simp⟩
  · exact exec_failKeptOrRaised (s := s.acceptRequest rest) (e ▸ h)

end Sys2Proof.Machine
end

section
/-! What a run leaves unchanged (10_state.md R20, R25), and the ports after a failed write (R21). -/

namespace Sys2Proof.Machine

/-! ## Only INIT sets a direction -/

theorem modeCount_eq_zero_iff (ops : List MicroOp) : modeCount ops = 0 ↔ ∀ m ∈ ops, ∀ q, m ≠ .mode q := by
  induction ops with
  | nil => simp [modeCount]
  | cons m ops ih => cases m <;> simp [modeCount, ih]

theorem modeCount_take {ops : List MicroOp} (h : modeCount ops = 0) (n : Nat) : modeCount (ops.take n) = 0 :=
  (modeCount_eq_zero_iff _).2 fun m hm => (modeCount_eq_zero_iff _).1 h m (List.mem_of_mem_take hm)

@[simp] theorem modeCount_wait (c : DelayClass) : modeCount [.wait c] = 0 := rfl

theorem modeCount_expansion {i : Instr} (hi : i ≠ .init) (cfg : Params) : modeCount (expansion cfg i) = 0 := by
  cases i with
  | init => exact absurd rfl hi
  | clear => simp [expansion, clearOps, wrcmdOps_eq]
  | home => simp [expansion, homeOps, wrcmdOps_eq]
  | setdisp cur blk => simp [expansion, setdispOps, wrcmdOps_eq]
  | setcur line col => cases h : lineOf line.toNat <;> simp [expansion, h, setcurOps, wrcmdOps_eq, modeCount]
  | wrstr text => simp [expansion, wrstrOps_eq]
  | wrcmd b => simp [expansion, wrcmdOps_eq]
  | wrdat b => simp [expansion, wrdatOps_eq]
  | geterr => rfl
  | failed => rfl
  | setaddr a => rfl
  | setpath p => rfl

/-- INIT after its two `MODE`s. -/
def initOpsAfterModes (cfg : Params) : List MicroOp :=
  [.wr .p0 0#8, .wr .p1 0#8, .wait .boot] ++ initCommandOps cfg ++ initBannerOps cfg

theorem expansion_init_eq (cfg : Params) :
    expansion cfg .init = .mode .p0 :: .mode .p1 :: initOpsAfterModes cfg := rfl

theorem modeCount_initOpsAfterModes (cfg : Params) : modeCount (initOpsAfterModes cfg) = 0 := by
  simp [initOpsAfterModes, initCommandOps, initBannerOps, bannerEntryOps, setcurOps, setdispOps, clearOps, wrcmdOps_eq,
    wrstrOps_eq, modeCount]

/-! ## The frame of a run -/

/-- `t` came from `s` by performing the events `l` and nothing else: ADDR and PATH are as before, every event was under
them, a port no event was addressed to is as before, and where no event is a `MODE` so are the directions and, no call
having failed, what is known of the bus. -/
structure RanEvents (s t : State) (l : List Event) : Prop where
  addr : t.addr = s.addr
  path : t.path = s.path
  trace : t.trace = s.trace ++ l
  endpoint : ∀ e ∈ l, e.addr = s.addr ∧ e.path = s.path
  port : ∀ p, (∀ e ∈ l, e.op.targets p = false) → t.port p = s.port p
  dir : (∀ e ∈ l, ∀ q, e.op ≠ .mode q) → ∀ p, (t.port p).dir = (s.port p).dir
  busLost : (∀ e ∈ l, ∀ q, e.op ≠ .mode q) → (∀ e ∈ l, e.answer = .ok) → t.busLost = s.busLost

theorem RanEvents.nil {s t : State} (ha : t.addr = s.addr) (hp : t.path = s.path) (ht : t.trace = s.trace)
    (h : ∀ p, t.port p = s.port p) (hb : t.busLost = s.busLost) : RanEvents s t [] :=
  ⟨ha, hp, by simp [ht], nofun, fun p _ => h p, fun _ p => by rw [h], fun _ _ => hb⟩

theorem RanEvents.trans {s t u : State} {l l' : List Event} (h : RanEvents s t l) (h' : RanEvents t u l') :
    RanEvents s u (l ++ l') where
  addr := h'.addr.trans h.addr
  path := h'.path.trans h.path
  trace := by rw [h'.trace, h.trace, List.append_assoc]
  endpoint := List.forall_mem_append.2 ⟨h.endpoint, h.addr ▸ h.path ▸ h'.endpoint⟩
  port p hl := by
    obtain ⟨hl, hl'⟩ := List.forall_mem_append.1 hl
    exact (h'.port p hl').trans (h.port p hl)
  dir hl p := by
    obtain ⟨hl, hl'⟩ := List.forall_mem_append.1 hl
    exact (h'.dir hl' p).trans (h.dir hl p)
  busLost hl ho := by
    obtain ⟨hl, hl'⟩ := List.forall_mem_append.1 hl
    obtain ⟨ho, ho'⟩ := List.forall_mem_append.1 ho
    exact (h'.busLost hl' ho').trans (h.busLost hl ho)

theorem RanEvents.atPosition (s : State) (ops rest : List MicroOp) (i : Nat) :
    RanEvents s (s.atPosition ops i rest) [] :=
  .nil rfl rfl rfl (fun _ => rfl) rfl

/-- The ports do not see the inputs, the adapter's string and the ghost. -/
theorem State.port_withInputs (s : State) (as : List Answer) (n : Nat) (msg : List Byte) (b : Bool) (q : Port) :
    ({ s with answers := as, elapsed := n, adapterErr := msg, busLost := b } : State).port q = s.port q := by
  cases q <;> rfl

/-- One micro-operation, answered ok or fail, is one event. -/
theorem perform_ranEvents {m : MicroOp} {s s' : State} (h : perform m s = .done s' ∨ perform m s = .failed s') :
    ∃ a, RanEvents s s' [{ op := m, answer := a, addr := s.addr, path := s.path }] := by
  rcases perform_cases m s with
    ⟨c, n, rfl, -, e⟩ | ⟨p, as, rfl, -, e⟩ | ⟨p, b, as, rfl, -, e⟩ | ⟨p, msg, as, hm, -, e⟩ | ⟨-, e⟩ <;>
    rcases h with h | h <;> rw [h] at e <;> cases e
  · refine ⟨.ok, by simp, by simp, by simp, by simp, fun q _ => ?_, fun _ q => ?_, by simp⟩ <;> cases q <;> rfl
  · refine ⟨.ok, by simp, by simp, by simp, by simp, fun q hq => ?_, by simp, by simp⟩
    have hne : q ≠ p := by rintro rfl; simp [MicroOp.targets] at hq
    simpa [State.port_loseOut, State.port_setOutput, hne] using s.port_withInputs as s.elapsed s.adapterErr false q
  · refine ⟨.ok, by simp, by simp, by simp, by simp, fun q hq => ?_, fun _ q => ?_, by simp⟩
    · have hne : q ≠ p := by rintro rfl; simp [MicroOp.targets] at hq
      simpa [State.port_setOut, hne] using s.port_withInputs as s.elapsed s.adapterErr s.busLost q
    · cases p <;> cases q <;> rfl
  · refine ⟨.fail msg, by simp, by simp, by simp, by simp, fun q hq => ?_, fun _ q => ?_, by simp⟩
    · have hne : q ≠ p := by rintro rfl; rcases hm with rfl | ⟨v, rfl⟩ <;> simp [MicroOp.targets] at hq
      simpa [State.port_loseOut, hne] using s.port_withInputs as s.elapsed msg true q
    · cases p <;> cases q <;> rfl

theorem runFrom_ranEvents (ops rest : List MicroOp) (i : Nat) (s : State) :
    ∃ l, RanEvents s (runFrom ops i rest s) l ∧ l.map Event.op <+: rest := by
  induction rest generalizing i s with
  | nil => exact ⟨[], .nil rfl rfl rfl (fun _ => rfl) rfl, List.prefix_refl _⟩
  | cons m rest ih =>
    have hpos := RanEvents.atPosition s ops (m :: rest) i
    cases hp : perform m (s.atPosition ops i (m :: rest)) with
    | done s' =>
      obtain ⟨a, ha⟩ := perform_ranEvents (.inl hp)
      obtain ⟨l, hl, hpre⟩ := ih (i + 1) s'
      rw [runFrom_done hp]
      exact ⟨_, (hpos.trans ha).trans hl, by simpa using hpre⟩
    | failed s' =>
      obtain ⟨a, ha⟩ := perform_ranEvents (.inr hp)
      have hraise : RanEvents s' (s'.raiseFailure .transport s'.lastError) [] :=
        .nil rfl rfl rfl (fun _ => rfl) rfl
      rw [runFrom_failed hp]
      exact ⟨_, (hpos.trans ha).trans hraise, by simp⟩
    | pending =>
      rw [runFrom_pending hp]
      exact ⟨[], hpos, by simp⟩

/-- The frame of an operation that stores no endpoint. -/
theorem exec_ranEvents {i : Instr} {s t : State} (ha : ∀ a, i ≠ .setaddr a) (hp : ∀ p, i ≠ .setpath p)
    (h : exec i s = .next t) :
    (t.cfg = s.cfg ∧ t.requests = s.requests ∧ t.rst = s.rst) ∧
      ∃ l, RanEvents s t l ∧ l.map Event.op <+: expansion s.cfg i := by
  rcases exec_cases i s with ⟨e, -⟩ | ⟨e, -⟩ | ⟨-, e⟩ | ⟨-, e⟩ | ⟨a, hi, -⟩ | ⟨p, hi, -⟩
  · cases h.symm.trans e
    obtain ⟨hc, -, -, hq, hr⟩ := runFrom_frame (expansion s.cfg i) (expansion s.cfg i) 0
      { s with latches := operandLatches i }
    obtain ⟨l, hl, hpre⟩ := runFrom_ranEvents (expansion s.cfg i) (expansion s.cfg i) 0
      { s with latches := operandLatches i }
    have hstart : RanEvents s { s with latches := operandLatches i } [] := .nil rfl rfl rfl (fun _ => rfl) rfl
    exact ⟨⟨hc, hq, hr⟩, l, hstart.trans hl, hpre⟩
  iterate 3
    cases h.symm.trans e
    exact ⟨⟨rfl, rfl, rfl⟩, [], .nil rfl rfl rfl (fun _ => rfl) rfl, List.nil_prefix⟩
  · exact absurd hi (ha a)
  · exact absurd hi (hp p)

/-- Settles O16: the frame of the events performed, and that the expansion of no operation but INIT holds a `MODE`. -/
theorem frameOfTheOperations : Obligations.FrameOfTheOperations := by
  intro i s t ha hp h
  obtain ⟨⟨hc, hq, hr⟩, l, hl, hpre⟩ := exec_ranEvents ha hp h
  have hmode (hi : i ≠ .init) : ∀ e ∈ l, ∀ q, e.op ≠ .mode q := fun e he =>
    (modeCount_eq_zero_iff _).1 (modeCount_expansion hi s.cfg) e.op (hpre.subset (List.mem_map_of_mem he))
  exact ⟨hc, hl.addr, hl.path, hq, hr, ⟨l, hl.trace, hpre, hl.endpoint, hl.port, fun hi => hl.busLost (hmode hi)⟩,
    fun hi => hl.dir (hmode hi)⟩

/-! ## The ports after a failed write -/

theorem perform_wr_fail (p : Port) (v : Byte) (s : State) (msg : List Byte) (as : List Answer)
    (h : s.answers = .fail msg :: as) :
    perform (.wr p v) s = .failed
      (({ s with answers := as, adapterErr := msg, busLost := true } : State).loseOut p
        |>.logEvent (.wr p v) (.fail msg)) := by
  simp [perform, portWrite, h]

/-- A failing write: the adapter's string is the message, its own port holds the next free value, the other is as it
was. -/
theorem runFrom_wr_fail (ops post : List MicroOp) (p : Port) (v : Byte) (msg : List Byte) (as : List Answer) (i : Nat)
    (s : State) (h : s.answers = .fail msg :: as) :
    (runFrom ops i (.wr p v :: post) s).adapterErr = msg ∧
      (∀ q, (runFrom ops i (.wr p v :: post) s).port q =
        if q = p then { s.port p with out := Config.freePins s.free } else s.port q) ∧
      (runFrom ops i (.wr p v :: post) s).free = s.free + 1 := by
  rw [runFrom_failed (perform_wr_fail p v _ msg as h)]
  refine ⟨by simp, fun q => ?_, by simp⟩
  cases p <;> cases q <;> rfl

/-- A write that fails after a first part without `MODE`, every `WR` of which keeps its effect (10_state.md R21). -/
theorem runFrom_write_fails (ops pre post : List MicroOp) (p : Port) (v : Byte) (msg : List Byte) (as : List Answer)
    (w i : Nat) (s : State) (hm : modeCount pre = 0) (h : endsWell s pre (.fail msg :: as) w) :
    (runFrom ops i (pre ++ .wr p v :: post) s).adapterErr = msg ∧
      (∀ q, q ≠ p → (runFrom ops i (pre ++ .wr p v :: post) s).port q =
        { s.port q with out := lastWrite q pre (s.port q).out }) ∧
      (runFrom ops i (pre ++ .wr p v :: post) s).port p = { s.port p with out := Config.freePins s.free } ∧
      (runFrom ops i (pre ++ .wr p v :: post) s).free = s.free + 1 := by
  obtain ⟨u, hu, ua, -, -, -, -, -, -, -, -, -, -, -, up⟩ := runFrom_prefix ops (.wr p v :: post) _ w pre i s h
  obtain ⟨uf, -, uq⟩ := up hm
  obtain ⟨hmsg, hport, hfree⟩ := runFrom_wr_fail ops post p v msg as (i + pre.length) u ua
  rw [hu]
  exact ⟨hmsg, fun q hq => by rw [hport q, if_neg hq, uq q], by rw [hport p, if_pos rfl, uq p, uf],
    by rw [hfree, uf]⟩

/-- INIT past its two `MODE`s: both ports are outputs with free values (42_init.md R111, 93 U8). -/
theorem runFrom_init_modes (ops rest : List MicroOp) (as : List Answer) (w : Nat) (s : State)
    (h : endsWell s [.mode .p0, .mode .p1] as w) :
    ∃ u, runFrom ops 0 (.mode .p0 :: .mode .p1 :: rest) s = runFrom ops 2 rest u ∧
      u.answers = as ∧ u.elapsed = w ∧ u.free = s.free + 2 ∧
      u.port0 = { out := Config.freePins s.free, dir := .output } ∧
      u.port1 = { out := Config.freePins (s.free + 1), dir := .output } := by
  obtain ⟨ha, he⟩ := h
  have h0 := perform_mode_ok .p0 (s.atPosition ops 0 (.mode .p0 :: .mode .p1 :: rest)) (.ok :: as) ha
  rw [runFrom_done h0, runFrom_done (perform_mode_ok .p1 _ as rfl)]
  exact ⟨_, rfl, rfl, by simpa [waitCount] using he, rfl, rfl, rfl⟩

/-- The first part of a list that ends well leaves the inputs of the second. -/
theorem endsWell_of_append {s : State} {a b : List MicroOp} {as : List Answer} {w : Nat}
    (h : endsWell s (a ++ b) as w) :
    endsWell s a (List.replicate (portCount b) .ok ++ as) (waitCount b + w) := by
  obtain ⟨ha, he⟩ := h
  rw [portCount_append, List.replicate_add, List.append_assoc] at ha
  rw [waitCount_append, Nat.add_assoc] at he
  exact ⟨ha, he⟩

/-- A failing write of INIT, which stands after both `MODE`s (42_init.md R112). -/
theorem runFrom_write_fails_after_modes (s : State) (ops ops' : List MicroOp) (n w : Nat) (p : Port) (v : Byte)
    (msg : List Byte) (as : List Answer) (hm : modeCount ops' = 0)
    (hops : ops = .mode .p0 :: .mode .p1 :: ops') (hn : ops[n]? = some (.wr p v))
    (h : endsWell s (ops.take n) (.fail msg :: as) w) :
    (runFrom ops 0 ops s).adapterErr = msg ∧
      (p ≠ .p0 → (runFrom ops 0 ops s).port0 =
        { out := lastWrite .p0 (ops.take n) (Config.freePins s.free), dir := .output }) ∧
      (p ≠ .p1 → (runFrom ops 0 ops s).port1 =
        { out := lastWrite .p1 (ops.take n) (Config.freePins (s.free + 1)), dir := .output }) ∧
      (runFrom ops 0 ops s).port p = { out := Config.freePins (s.free + 2), dir := .output } ∧
      (runFrom ops 0 ops s).free = s.free + 3 := by
  subst hops
  obtain ⟨k, rfl⟩ : ∃ k, n = k + 2 := by
    rcases n with _ | _ | k
    · simp at hn
    · simp at hn
    · exact ⟨k, rfl⟩
  obtain ⟨u, hu, ua, ue, uf, u0, u1⟩ := runFrom_init_modes (.mode .p0 :: .mode .p1 :: ops') ops' _ _ s
    (endsWell_of_append (a := [.mode .p0, .mode .p1]) (b := ops'.take k) h)
  obtain ⟨hmsg, hq, hp, hf⟩ := runFrom_write_fails (.mode .p0 :: .mode .p1 :: ops') (ops'.take k) (ops'.drop (k + 1))
    p v msg as w 2 u (modeCount_take hm k) ⟨ua, ue⟩
  have hn' : ops'[k]? = some (.wr p v) := hn
  rw [← (cut_at hn').1, ← hu] at hmsg hq hp hf
  refine ⟨hmsg, fun h => ?_, fun h => ?_, ?_, by rw [hf, uf]⟩
  · exact (hq .p0 h.symm).trans (by rw [State.port_p0, u0]; rfl)
  · exact (hq .p1 h.symm).trans (by rw [State.port_p1, u1]; rfl)
  · rw [hp, uf]
    cases p
    · rw [State.port_p0, u0]
    · rw [State.port_p1, u1]

/-- Settles O18: INIT's writes come after both its `MODE`s, and no other operation holds a `MODE`. -/
theorem failedWriteKeepsTheOtherPort : Obligations.FailedWriteKeepsTheOtherPort := by
  intro i s n w p v msg as hn h
  by_cases hi : i = .init
  · subst hi
    obtain ⟨hmsg, h0, h1, hp, hf⟩ := runFrom_write_fails_after_modes { s with latches := operandLatches .init } _ _ n w
      p v msg as (modeCount_initOpsAfterModes s.cfg) (expansion_init_eq s.cfg) hn h
    exact ⟨_, exec_of_getElem? hn, hmsg, fun hi => absurd rfl hi, fun _ => ⟨h0, h1, hp, hf⟩⟩
  · obtain ⟨hmsg, hq, hp, hf⟩ := runFrom_write_fails (expansion s.cfg i) ((expansion s.cfg i).take n)
      ((expansion s.cfg i).drop (n + 1)) p v msg as w 0 { s with latches := operandLatches i }
      (modeCount_take (modeCount_expansion hi s.cfg) n) h
    rw [← (cut_at hn).1] at hmsg hq hp hf
    exact ⟨_, exec_of_getElem? hn, hmsg, fun _ => ⟨hq, hp, hf⟩, fun h => absurd h hi⟩

end Sys2Proof.Machine
end

section
/-! The operand latches while an operation runs (10_state.md R11). -/

namespace Sys2Proof.Machine

/-! ## Where a strobe starts -/

theorem strobeAt_strobe_append (cfg : Params) (c d : Byte) (r : List MicroOp) :
    strobeAt cfg (strobe cfg c d ++ r) = some (c, d) := by
  simp [strobeAt, strobe, dataPort, ctrlPort, List.isPrefixOf]

theorem strobeAt_of_head {cfg : Params} {ops : List MicroOp} (h : ∀ d, ops.head? ≠ some (.wr .p0 d)) :
    strobeAt cfg ops = none := by
  unfold strobeAt
  split
  · exact absurd rfl (h _)
  · rfl

/-- `j` is where a strobe of `d` with control word `c` starts in `ops` (40_framer.md R82). -/
def StrobeStarts (cfg : Params) (ops : List MicroOp) (j : Nat) (c d : Byte) : Prop :=
  (ops.drop j).take 5 = strobe cfg c d

theorem StrobeStarts.strobeAt {cfg : Params} {ops : List MicroOp} {j : Nat} {c d : Byte}
    (h : StrobeStarts cfg ops j c d) : strobeAt cfg (ops.drop j) = some (c, d) := by
  rw [← List.take_append_drop 5 (ops.drop j), h]
  exact strobeAt_strobe_append cfg c d _

/-- No strobe starts inside a strobe: port 0 is written at its start only. -/
theorem StrobeStarts.strobeAt_inside {cfg : Params} {ops : List MicroOp} {j n : Nat} {c d : Byte}
    (h : StrobeStarts cfg ops j c d) (hj : j < n) (hn : n < j + 5) : Machine.strobeAt cfg (ops.drop n) = none := by
  obtain ⟨k, rfl⟩ := Nat.exists_eq_add_of_lt hj
  have hhead : (ops.drop (j + k + 1)).head? = (strobe cfg c d)[k + 1]? := by
    rw [← show _ = strobe cfg c d from h, List.getElem?_take_of_lt (by omega), List.getElem?_drop, List.head?_drop,
      Nat.add_assoc]
  refine strobeAt_of_head fun b => ?_
  rw [hhead]
  have hk : k < 4 := by omega
  interval_cases k <;> simp [strobe, ctrlPort]

/-! ## The latches along the loop -/

/-- LINE, COL, CUR, BLK and TEXT: the latches a strobe does not set. -/
def Latches.operands (l : Latches) : Latches := { l with ctrl := none, data := none }

@[simp] theorem Latches.operands_atStrobe (cfg : Params) (rest : List MicroOp) (l : Latches) :
    (l.atStrobe cfg rest).operands = l.operands := by
  unfold Latches.atStrobe
  split <;> rfl

theorem perform_done_keeps_cfg_latches {m : MicroOp} {s s' : State} (h : perform m s = .done s') :
    s'.cfg = s.cfg ∧ s'.latches = s.latches := by
  rcases perform_cases m s with
    ⟨_, _, _, _, e⟩ | ⟨_, _, _, _, e⟩ | ⟨_, _, _, _, _, e⟩ | ⟨_, _, _, _, _, e⟩ | ⟨_, e⟩ <;>
    rw [h] at e <;> cases e <;> simp

/-- For every strobe begun before `n` and not over at `n - 1`, CTRL and DATA hold its operands. -/
def StrobeLatched (cfg : Params) (ops : List MicroOp) (n : Nat) (l : Latches) : Prop :=
  ∀ j c d, j < n → n ≤ j + 5 → StrobeStarts cfg ops j c d → l.ctrl = some c ∧ l.data = some d

/-- Taking position `n` latches the strobe that starts there, and inside a strobe changes nothing. -/
theorem StrobeLatched.atStrobe {cfg : Params} {ops : List MicroOp} {n : Nat} {l : Latches}
    (h : StrobeLatched cfg ops n l) : StrobeLatched cfg ops (n + 1) (l.atStrobe cfg (ops.drop n)) := by
  intro j c d hj hn hs
  rcases Nat.eq_or_lt_of_le (Nat.le_of_lt_succ hj) with rfl | hlt
  · simp [Latches.atStrobe, hs.strobeAt]
  · simpa [Latches.atStrobe, hs.strobeAt_inside hlt hn] using h j c d hlt (by omega) hs

/-- A loop that waits at position `n` has kept the operand latches and latched the strobe in progress. -/
theorem runFrom_latches (ops : List MicroOp) (n : Nat) (rest : List MicroOp) :
    ∀ (i : Nat) (s : State), ops.drop i = rest → StrobeLatched s.cfg ops i s.latches →
      (runFrom ops i rest s).seq = .run ops n →
      (runFrom ops i rest s).latches.operands = s.latches.operands ∧
        StrobeLatched s.cfg ops (n + 1) (runFrom ops i rest s).latches := by
  induction rest with
  | nil => intro i s _ _ hseq; simp [runFrom_nil] at hseq
  | cons m rest ih =>
    intro i s hdrop hl hseq
    have hpos : StrobeLatched s.cfg ops (i + 1) (s.atPosition ops i (m :: rest)).latches :=
      hdrop ▸ hl.atStrobe
    cases hp : perform m (s.atPosition ops i (m :: rest)) with
    | done s' =>
      obtain ⟨hcfg, hlat⟩ := perform_done_keeps_cfg_latches hp
      have hrest : ops.drop (i + 1) = rest := by rw [← List.tail_drop, hdrop, List.tail_cons]
      rw [runFrom_done hp] at hseq ⊢
      obtain ⟨ho, hs⟩ := ih (i + 1) s' hrest (by rw [hcfg, hlat]; exact hpos) hseq
      rw [hcfg] at hs
      exact ⟨by rw [ho, hlat]; simp, hs⟩
    | failed s' => simp [runFrom_failed hp] at hseq
    | pending =>
      rw [runFrom_pending hp] at hseq ⊢
      obtain rfl : i = n := by simpa using hseq
      exact ⟨by simp, hpos⟩

/-- Settles O17: `runFrom_latches` from the latches of the request, no strobe having begun. -/
theorem latchesHoldTheOperandsWhileAnOperationRuns : Obligations.LatchesHoldTheOperandsWhileAnOperationRuns := by
  intro i s t n ht hseq
  obtain ⟨rfl, -, hr⟩ := exec_of_seq_ne_idle ht (by simp [hseq])
  obtain ⟨ho, hs⟩ := runFrom_latches (expansion s.cfg i) n (expansion s.cfg i) 0
    { s with latches := operandLatches i } rfl (fun j _ _ hj => absurd hj (Nat.not_lt_zero j)) hseq
  refine ⟨(congrArg Latches.line ho).trans ?_, (congrArg Latches.col ho).trans ?_, (congrArg Latches.cur ho).trans ?_,
    (congrArg Latches.blk ho).trans ?_, (congrArg Latches.text ho).trans ?_,
    fun j c d hj hn hstrobe => hs j c d (by omega) (by omega) hstrobe⟩
  case refine_5 =>
    cases i
    case setpath => simp [registersOnly] at hr
    all_goals rfl
  all_goals cases i <;> rfl

end Sys2Proof.Machine
end

section
/-! Which waits an operation holds (10_state.md R13): the boot and function-set waits belong to INIT (42_init.md). -/

namespace Sys2Proof.Machine

@[simp] theorem wait_mem_dataWrite (cfg : Params) (b : Byte) (c : DelayClass) :
    .wait c ∈ dataWrite cfg b ↔ c = .en ∨ c = .data := by
  simp [dataWrite]

@[simp] theorem wait_mem_commandWrite (cfg : Params) (b : Byte) (c : DelayClass) :
    .wait c ∈ commandWrite cfg b ↔ c = .en ∨ c = .cmd := by
  simp [commandWrite]

/-- R13's other five delay classes are the only ones the command layer (41_command_layer.md) waits for. -/
theorem wait_notMem_expansion {i : Instr} (hi : i ≠ .init) (cfg : Params) {c : DelayClass} (hc : c = .boot ∨ c = .fset) :
    .wait c ∉ expansion cfg i := by
  have hother : c ≠ .en ∧ c ≠ .data ∧ c ≠ .cmd ∧ c ≠ .clear ∧ c ≠ .home := by
    rcases hc with rfl | rfl <;> decide
  cases i with
  | init => exact absurd rfl hi
  | clear => simp [expansion, clearOps, wrcmdOps_eq, hother]
  | home => simp [expansion, homeOps, wrcmdOps_eq, hother]
  | setdisp cur blk => simp [expansion, setdispOps, wrcmdOps_eq, hother]
  | setcur line col => cases h : lineOf line.toNat <;> simp [expansion, h, setcurOps, wrcmdOps_eq, hother]
  | wrstr text => simp [expansion, wrstrOps_eq, hother]
  | wrcmd b => simp [expansion, wrcmdOps_eq, hother]
  | wrdat b => simp [expansion, wrdatOps_eq, hother]
  | geterr => exact List.not_mem_nil
  | failed => exact List.not_mem_nil
  | setaddr a => exact List.not_mem_nil
  | setpath p => exact List.not_mem_nil

/-- Settles O36: an operation other than INIT holds no `MODE` (`modeCount_expansion`) and neither of INIT's two waits. -/
theorem onlyInitSetsPortModes : Obligations.OnlyInitSetsPortModes := by
  intro cfg i m hm h
  by_contra hi
  rcases h with ⟨p, rfl⟩ | rfl | rfl
  · exact (modeCount_eq_zero_iff _).1 (modeCount_expansion hi cfg) _ hm p rfl
  · exact wait_notMem_expansion hi cfg (.inl rfl) hm
  · exact wait_notMem_expansion hi cfg (.inr rfl) hm

end Sys2Proof.Machine
end

section
/-! The opcode map of 30_encoding.md R53 row by row: which headers select a row, and what a row answers on a header of
its own. -/

namespace Sys2Proof

/-! ## The rows -/

/-- The op field of an operation's row in R53. -/
def Instr.opcode : Instr → BitVec 4
  | .init => 0x1#4
  | .clear => 0x2#4
  | .home => 0x3#4
  | .setdisp _ _ => 0x4#4
  | .setcur _ _ => 0x5#4
  | .wrstr _ => 0x6#4
  | .wrcmd _ => 0x7#4
  | .wrdat _ => 0x8#4
  | .geterr => 0x9#4
  | .failed => 0xA#4
  | .setaddr _ => 0xB#4
  | .setpath _ => 0xC#4

/-- The header `w` keeps the must-be-zero field of the row's format (R51); Formats P and S have none. -/
def Instr.keepsZeroField (w : Word) : Instr → Prop
  | .init | .clear | .home | .geterr | .failed => lenField w = 0#12
  | .wrcmd _ | .wrdat _ | .setaddr _ => lineField w = 0#4
  | .setdisp _ _ => flagsZeroField w = 0#10
  | .setcur _ _ | .wrstr _ | .setpath _ => True

/-- The decoder of an operation's row. The operands of the operation that names the row are not used. -/
def Instr.decodeRow : Instr → Word → List Word → Decoded
  | .init => decodeN .init
  | .clear => decodeN .clear
  | .home => decodeN .home
  | .setdisp _ _ => decodeF
  | .setcur _ _ => decodeP
  | .wrstr _ => decodeS .wrstr
  | .wrcmd _ => decodeB .wrcmd
  | .wrdat _ => decodeB .wrdat
  | .geterr => decodeN .geterr
  | .failed => decodeN .failed
  | .setaddr _ => decodeB .setaddr
  | .setpath _ => decodeS .setpath

/-- The ops of R59 (a). -/
def reservedOps : List (BitVec 4) := [0x0#4, 0xD#4, 0xE#4, 0xF#4]

theorem decodeRequest_of_opcode {w : Word} {i : Instr} (h : opField w = i.opcode) (ws : List Word) :
    decodeRequest (w :: ws) = i.decodeRow w ws := by
  cases i <;> simp only [decodeRequest, h, Instr.opcode] <;> rfl

theorem decodeRequest_of_reserved {w : Word} (h : opField w ∈ reservedOps) (ws : List Word) :
    decodeRequest (w :: ws) = .illegal .reservedOpcode ws := by
  simp only [reservedOps, List.mem_cons, List.not_mem_nil, or_false] at h
  rcases h with h | h | h | h <;> simp only [decodeRequest, h] <;> rfl

theorem exists_opcode_or_reserved (op : BitVec 4) : (∃ i : Instr, op = i.opcode) ∨ op ∈ reservedOps := by
  have hops : ∀ op : BitVec 4, op ∈ reservedOps ∨
      op ∈ [Instr.init, .clear, .home, .setdisp false false, .setcur 0#4 0#8, .wrstr [], .wrcmd 0#8, .wrdat 0#8,
        .geterr, .failed, .setaddr 0#8, .setpath []].map Instr.opcode := by decide
  rcases hops op with h | h
  · exact .inr h
  · obtain ⟨i, -, hi⟩ := List.mem_map.1 h
    exact .inl ⟨i, hi.symm⟩

/-! ## Mask and match -/

theorem appendBits_inj {n m : Nat} {x x' : BitVec n} {y y' : BitVec m} : x ++ y = x' ++ y' ↔ x = x' ∧ y = y' := by
  refine ⟨fun h => ⟨?_, ?_⟩, fun ⟨hx, hy⟩ => hx ▸ hy ▸ rfl⟩
  · simpa only [BitVec.extractLsb'_append_eq_left] using congrArg (BitVec.extractLsb' m n) h
  · simpa only [BitVec.extractLsb'_append_eq_right] using congrArg (BitVec.extractLsb' 0 m) h

/-- Format N: the mask keeps the whole header. -/
theorem and_maskN_iff (w : Word) (op : BitVec 4) :
    w &&& 0xFFFF#16 = op ++ 0#12 ↔ opField w = op ∧ lenField w = 0#12 := by
  rw [show w &&& 0xFFFF#16 = w from BitVec.and_allOnes, ← appendBits_inj, word_opLen]

/-- Format B: the mask keeps all but the byte. -/
theorem and_maskB_iff (w : Word) (op : BitVec 4) :
    w &&& 0xFF00#16 = op ++ 0#4 ++ 0#8 ↔ opField w = op ∧ lineField w = 0#4 := by
  have hmask : w &&& 0xFF00#16 = opField w ++ lineField w ++ 0#8 :=
    calc w &&& 0xFF00#16
      _ = (opField w ++ lineField w ++ byteField w) &&& (BitVec.allOnes 4 ++ BitVec.allOnes 4 ++ 0#8) := by
        rw [word_opLineByte]
        rfl
      _ = opField w ++ lineField w ++ 0#8 := by
        simp only [BitVec.and_append, BitVec.and_allOnes, BitVec.and_zero]
  rw [hmask, appendBits_inj, appendBits_inj, and_iff_left rfl]

/-- Format F: the mask keeps all but the two flags. -/
theorem and_maskF_iff (w : Word) (op : BitVec 4) :
    w &&& 0xFFFC#16 = op ++ 0#10 ++ 0#1 ++ 0#1 ↔ opField w = op ∧ flagsZeroField w = 0#10 := by
  have hmask : w &&& 0xFFFC#16 = opField w ++ flagsZeroField w ++ 0#1 ++ 0#1 :=
    calc w &&& 0xFFFC#16
      _ = (opField w ++ flagsZeroField w ++ BitVec.ofBool (w.getLsbD 1) ++ BitVec.ofBool (w.getLsbD 0)) &&&
          (BitVec.allOnes 4 ++ BitVec.allOnes 10 ++ 0#1 ++ 0#1) := by
        rw [word_opFlags]
        rfl
      _ = opField w ++ flagsZeroField w ++ 0#1 ++ 0#1 := by
        simp only [BitVec.and_append, BitVec.and_allOnes, BitVec.and_zero]
  rw [hmask, appendBits_inj, appendBits_inj, appendBits_inj, and_iff_left rfl, and_iff_left rfl]

/-- Formats P and S: the mask keeps the op. -/
theorem and_maskOp_iff (w : Word) (op : BitVec 4) : w &&& 0xF000#16 = op ++ 0#12 ↔ opField w = op ∧ True := by
  have hmask : w &&& 0xF000#16 = opField w ++ 0#12 :=
    calc w &&& 0xF000#16
      _ = (opField w ++ lenField w) &&& (BitVec.allOnes 4 ++ 0#12) := by
        rw [word_opLen]
        rfl
      _ = opField w ++ 0#12 := by simp only [BitVec.and_append, BitVec.and_allOnes, BitVec.and_zero]
  rw [hmask, appendBits_inj, and_iff_left rfl, and_true]

/-- R53's selection of a row, by fields: the row's op, and a must-be-zero field that is 0. -/
theorem and_rowMask_eq_rowMatch_iff (w : Word) (i : Instr) :
    w &&& rowMask i = rowMatch i ↔ opField w = i.opcode ∧ i.keepsZeroField w := by
  cases i with
  | init => exact and_maskN_iff w 0x1#4
  | clear => exact and_maskN_iff w 0x2#4
  | home => exact and_maskN_iff w 0x3#4
  | setdisp cur blk => exact and_maskF_iff w 0x4#4
  | setcur line col => exact and_maskOp_iff w 0x5#4
  | wrstr text => exact and_maskOp_iff w 0x6#4
  | wrcmd b => exact and_maskB_iff w 0x7#4
  | wrdat b => exact and_maskB_iff w 0x8#4
  | geterr => exact and_maskN_iff w 0x9#4
  | failed => exact and_maskN_iff w 0xA#4
  | setaddr addr => exact and_maskB_iff w 0xB#4
  | setpath path => exact and_maskOp_iff w 0xC#4

theorem rowMatch_eq (i : Instr) : rowMatch i = i.opcode ++ 0#12 := by
  cases i <;> simp [rowMatch, Instr.opcode]

/-! ## Format S: the payload words (R56) -/

section
variable {mk : List Byte → Instr} {w : Word} {ws : List Word}

theorem decodeS_of_short (h : ws.length < (lenField w).toNat) : decodeS mk w ws = .incomplete := by
  simp [decodeS, arrived_eq, h]

theorem decodeS_of_ok (hlen : (lenField w).toNat ≤ ws.length)
    (hok : (ws.take (lenField w).toNat).all payloadOk = true) :
    decodeS mk w ws =
      .legal (mk ((ws.take (lenField w).toNat).map byteField)) (ws.drop (lenField w).toNat) := by
  simp only [decodeS, arrived_eq, hlen, hok, decide_true, if_true]

theorem decodeS_of_bad (hlen : (lenField w).toNat ≤ ws.length)
    (hbad : ¬ (ws.take (lenField w).toNat).all payloadOk = true) :
    decodeS mk w ws = .illegal .badPayload (ws.drop (lenField w).toNat) := by
  simp only [decodeS, arrived_eq, hlen, decide_true, if_true, if_neg hbad]

end

/-! ## What a row answers on a header of its own -/

theorem payloadCount_eq_zero {w : Word} (h6 : opField w ≠ 0x6#4) (hC : opField w ≠ 0xC#4) : payloadCount w = 0 :=
  if_neg (by simp [h6, hC])

theorem payloadCount_eq_lenField {w : Word} (h : opField w = 0x6#4 ∨ opField w = 0xC#4) :
    payloadCount w = (lenField w).toNat :=
  if_pos h

theorem payloadCount_of_reserved {w : Word} (h : opField w ∈ reservedOps) : payloadCount w = 0 :=
  payloadCount_eq_zero (fun e => by simp [e, reservedOps] at h) (fun e => by simp [e, reservedOps] at h)

/-- A row has no payload words, and then only its must-be-zero field to go wrong, or it is one of the two texts. -/
theorem row_noPayload_or_text {w : Word} {i : Instr} (h : opField w = i.opcode) :
    (payloadCount w = 0 ∧ (i.keepsZeroField w → ∀ ws, ∃ j, i.decodeRow w ws = .legal j ws)) ∨
      (payloadCount w = (lenField w).toNat ∧ i.keepsZeroField w ∧ ∃ mk, i.decodeRow = decodeS mk) := by
  cases i
  case wrstr => exact .inr ⟨payloadCount_eq_lenField (.inl h), trivial, _, rfl⟩
  case setpath => exact .inr ⟨payloadCount_eq_lenField (.inr h), trivial, _, rfl⟩
  all_goals
    refine .inl ⟨payloadCount_eq_zero (by simp [h, Instr.opcode]) (by simp [h, Instr.opcode]), fun hz ws => ?_⟩
  case setcur => exact ⟨_, rfl⟩
  all_goals exact ⟨_, if_pos hz⟩

theorem decodeRow_of_nonzeroField {w : Word} {i : Instr} (h : ¬ i.keepsZeroField w) (ws : List Word) :
    i.decodeRow w ws = .illegal .mustBeZero ws := by
  cases i
  case setcur | wrstr | setpath => exact absurd trivial h
  all_goals exact if_neg h

theorem payloadCount_of_nonzeroField {w : Word} {i : Instr} (hop : opField w = i.opcode) (h : ¬ i.keepsZeroField w) :
    payloadCount w = 0 := by
  rcases row_noPayload_or_text hop with ⟨hc, -⟩ | ⟨-, hz, -⟩
  · exact hc
  · exact absurd hz h

theorem decodeRow_of_short {w : Word} {i : Instr} {ws : List Word} (hop : opField w = i.opcode)
    (h : ws.length < payloadCount w) : i.decodeRow w ws = .incomplete := by
  rcases row_noPayload_or_text hop with ⟨hc, -⟩ | ⟨hc, -, mk, hrow⟩
  · simp [hc] at h
  · rw [hrow]
    exact decodeS_of_short (hc ▸ h)

/-- The payload all there and the must-be-zero field 0, only a payload word can make a request illegal. -/
theorem decodeRow_of_whole {w : Word} {i : Instr} {ws : List Word} (hop : opField w = i.opcode)
    (hz : i.keepsZeroField w) (h : payloadCount w ≤ ws.length) :
    (∃ j, i.decodeRow w ws = .legal j (ws.drop (payloadCount w))) ∨
      i.decodeRow w ws = .illegal .badPayload (ws.drop (payloadCount w)) := by
  rcases row_noPayload_or_text hop with ⟨hc, hlegal⟩ | ⟨hc, -, mk, hrow⟩
  · rw [hc, List.drop_zero]
    exact .inl (hlegal hz ws)
  · rw [hrow, hc]
    rw [hc] at h
    by_cases hok : (ws.take (lenField w).toNat).all payloadOk = true
    · exact .inl ⟨_, decodeS_of_ok h hok⟩
    · exact .inr (decodeS_of_bad h hok)

end Sys2Proof
end

section
/-! The round trips of the encoder and the decoder (30_encoding.md R51 to R53, R63), and what a header decides (R53,
R56). -/

namespace Sys2Proof

/-! ## Decoding an encoding, by format -/

/-- The words of `i` are a header of its own row, with the must-be-zero field 0, and payload words from which the row
reads `i`, whatever follows. -/
def EncodesAsItsRow (i : Instr) : Prop :=
  ∃ w ps, encode i = w :: ps ∧ opField w = i.opcode ∧ i.keepsZeroField w ∧
    (i.wf = true → ∀ rest, i.decodeRow w (ps ++ rest) = .legal i rest)

theorem decodeS_encodeS (mk : List Byte → Instr) (op : BitVec 4) (text : List Byte) (h : textFits text = true)
    (rest : List Word) :
    decodeS mk (op ++ BitVec.ofNat 12 text.length) (encodePayload text ++ rest) = .legal (mk text) rest := by
  have hlen : (lenField (op ++ BitVec.ofNat 12 text.length)).toNat = (encodePayload text).length := by
    have : text.length ≤ 4095 := of_decide_eq_true h
    rw [(fields_opLen ..).2, BitVec.toNat_ofNat, length_encodePayload]
    omega
  have htake : (encodePayload text ++ rest).take (encodePayload text).length = encodePayload text := List.take_left
  rw [decodeS_of_ok (by simp [hlen]) (by rw [hlen, htake]; exact encodePayload_ok text), hlen, htake,
    encodePayload_bytes, List.drop_left]

theorem decodeF_encodeF (op : BitVec 4) (cur blk : Bool) (rest : List Word) :
    decodeF (op ++ 0#10 ++ BitVec.ofBool cur ++ BitVec.ofBool blk) rest = .legal (.setdisp cur blk) rest := by
  obtain ⟨-, hz, hcur, hblk⟩ := fields_opFlags op cur blk
  rw [decodeF, if_pos hz, hcur, hblk]

theorem decodeB_encodeB (mk : Byte → Instr) (op : BitVec 4) (b : Byte) (rest : List Word) :
    decodeB mk (op ++ 0#4 ++ b) rest = .legal (mk b) rest := by
  obtain ⟨-, hz, hb⟩ := fields_opLineByte op 0#4 b
  rw [decodeB, if_pos hz, hb]

theorem decodeP_encodeP (op line : BitVec 4) (col : Byte) (rest : List Word) :
    decodeP (op ++ line ++ col) rest = .legal (.setcur line col) rest := by
  obtain ⟨-, hline, hcol⟩ := fields_opLineByte op line col
  rw [decodeP, hline, hcol]

theorem encodesAsItsRow (i : Instr) : EncodesAsItsRow i := by
  cases i with
  | init => exact ⟨_, _, rfl, rfl, rfl, fun _ _ => rfl⟩
  | clear => exact ⟨_, _, rfl, rfl, rfl, fun _ _ => rfl⟩
  | home => exact ⟨_, _, rfl, rfl, rfl, fun _ _ => rfl⟩
  | geterr => exact ⟨_, _, rfl, rfl, rfl, fun _ _ => rfl⟩
  | failed => exact ⟨_, _, rfl, rfl, rfl, fun _ _ => rfl⟩
  | setdisp cur blk =>
    obtain ⟨hop, hz, -⟩ := fields_opFlags 0x4#4 cur blk
    exact ⟨_, _, rfl, hop, hz, fun _ => decodeF_encodeF _ cur blk⟩
  | setcur line col =>
    exact ⟨_, _, rfl, (fields_opLineByte ..).1, trivial, fun _ => decodeP_encodeP _ line col⟩
  | wrcmd b =>
    obtain ⟨hop, hz, -⟩ := fields_opLineByte 0x7#4 0#4 b
    exact ⟨_, _, rfl, hop, hz, fun _ => decodeB_encodeB .wrcmd _ b⟩
  | wrdat b =>
    obtain ⟨hop, hz, -⟩ := fields_opLineByte 0x8#4 0#4 b
    exact ⟨_, _, rfl, hop, hz, fun _ => decodeB_encodeB .wrdat _ b⟩
  | setaddr addr =>
    obtain ⟨hop, hz, -⟩ := fields_opLineByte 0xB#4 0#4 addr
    exact ⟨_, _, rfl, hop, hz, fun _ => decodeB_encodeB .setaddr _ addr⟩
  | wrstr text => exact ⟨_, _, rfl, (fields_opLen ..).1, trivial, fun h => decodeS_encodeS .wrstr _ text h⟩
  | setpath path => exact ⟨_, _, rfl, (fields_opLen ..).1, trivial, fun h => decodeS_encodeS .setpath _ path h⟩

/-- Settles O1: the header selects the operation's own row, which reads the operation back. -/
theorem decodeOfEncodeGivesTheOperation : Obligations.DecodeOfEncodeGivesTheOperation := by
  intro i rest hwf
  obtain ⟨w, ps, henc, hop, -, hrow⟩ := encodesAsItsRow i
  rw [henc, List.cons_append, decodeRequest_of_opcode hop, hrow hwf]

/-! ## A legal request is an encoding, by format -/

section
variable {w : Word} {ws rest : List Word} {i : Instr} {op : BitVec 4}

theorem decodeN_eq_legal {j : Instr} (hop : opField w = op) (h : decodeN j w ws = .legal i rest) :
    i = j ∧ w :: ws = encodeN op ++ rest := by
  unfold decodeN at h
  split at h <;> cases h
  next hz => exact ⟨rfl, by rw [encodeN, ← hop, ← hz, word_opLen]; rfl⟩

theorem decodeB_eq_legal {mk : Byte → Instr} (hop : opField w = op) (h : decodeB mk w ws = .legal i rest) :
    ∃ b, i = mk b ∧ w :: ws = encodeB op b ++ rest := by
  unfold decodeB at h
  split at h <;> cases h
  next hz => exact ⟨_, rfl, by rw [encodeB, ← hop, ← hz, word_opLineByte]; rfl⟩

theorem decodeF_eq_legal (hop : opField w = op) (h : decodeF w ws = .legal i rest) :
    ∃ cur blk, i = .setdisp cur blk ∧ w :: ws = encodeF op cur blk ++ rest := by
  unfold decodeF at h
  split at h <;> cases h
  next hz => exact ⟨_, _, rfl, by rw [encodeF, ← hop, ← hz, word_opFlags]; rfl⟩

theorem decodeP_eq_legal (hop : opField w = op) (h : decodeP w ws = .legal i rest) :
    ∃ line col, i = .setcur line col ∧ w :: ws = encodeP op line col ++ rest := by
  cases h
  exact ⟨_, _, rfl, by rw [encodeP, ← hop, word_opLineByte]; rfl⟩

theorem decodeS_eq_legal {mk : List Byte → Instr} (hop : opField w = op) (h : decodeS mk w ws = .legal i rest) :
    ∃ text, textFits text = true ∧ i = mk text ∧ w :: ws = encodeS op text ++ rest := by
  rcases Nat.lt_or_ge ws.length (lenField w).toNat with hlen | hlen
  · simp [decodeS_of_short hlen] at h
  by_cases hok : (ws.take (lenField w).toNat).all payloadOk = true
  case neg => simp [decodeS_of_bad hlen hok] at h
  rw [decodeS_of_ok hlen hok] at h
  cases h
  have hcount : ((ws.take (lenField w).toNat).map byteField).length = (lenField w).toNat := by
    rw [List.length_map, List.length_take, Nat.min_eq_left hlen]
  refine ⟨_, decide_eq_true ?_, rfl, ?_⟩
  · rw [hcount]
    exact Nat.le_of_lt_succ (lenField w).isLt
  · rw [encodeS, hcount, BitVec.ofNat_toNat, BitVec.setWidth_eq, ← hop, word_opLen, encodePayload_of_ok _ hok,
      List.cons_append, List.take_append_drop]

theorem decodeRow_eq_legal {j : Instr} (hop : opField w = j.opcode) (h : j.decodeRow w ws = .legal i rest) :
    i.wf = true ∧ w :: ws = encode i ++ rest := by
  cases j with
  | init | clear | home | geterr | failed =>
    obtain ⟨rfl, hws⟩ := decodeN_eq_legal hop h
    exact ⟨rfl, hws⟩
  | wrcmd | wrdat | setaddr =>
    obtain ⟨b, rfl, hws⟩ := decodeB_eq_legal hop h
    exact ⟨rfl, hws⟩
  | setdisp =>
    obtain ⟨cur, blk, rfl, hws⟩ := decodeF_eq_legal hop h
    exact ⟨rfl, hws⟩
  | setcur =>
    obtain ⟨line, col, rfl, hws⟩ := decodeP_eq_legal hop h
    exact ⟨rfl, hws⟩
  | wrstr | setpath =>
    obtain ⟨text, hwf, rfl, hws⟩ := decodeS_eq_legal hop h
    exact ⟨hwf, hws⟩

end

/-- Settles O2: a reserved op is not legal, and a row is legal on the encodings of its operations only. -/
theorem legalRequestIsTheEncodingOfItsOperation : Obligations.LegalRequestIsTheEncodingOfItsOperation := by
  rintro (_ | ⟨w, ws⟩) rest i h
  · simp [decodeRequest] at h
  rcases exists_opcode_or_reserved (opField w) with ⟨j, hop⟩ | hres
  · rw [decodeRequest_of_opcode hop] at h
    exact decodeRow_eq_legal hop h
  · simp [decodeRequest_of_reserved hres] at h

/-! ## What the header decides -/

/-- Settles O3: the four clauses by fields, `and_rowMask_eq_rowMatch_iff` saying when a row matches. -/
theorem headerSelectsItsOneRow : Obligations.HeaderSelectsItsOneRow := by
  refine ⟨fun w ws rest i h => ?_, fun w i j hi hj => ?_, fun w ws hno => ?_, fun w ws rest i why hi h => ?_⟩
  · obtain ⟨-, hws⟩ := legalRequestIsTheEncodingOfItsOperation _ _ _ h
    obtain ⟨w', ps, henc, hop, hz, -⟩ := encodesAsItsRow i
    obtain ⟨rfl, -⟩ : w = w' ∧ ws = ps ++ rest := by simpa [henc] using hws
    exact (and_rowMask_eq_rowMatch_iff w i).2 ⟨hop, hz⟩
  · obtain ⟨hi, -⟩ := (and_rowMask_eq_rowMatch_iff w i).1 hi
    obtain ⟨hj, -⟩ := (and_rowMask_eq_rowMatch_iff w j).1 hj
    rw [rowMatch_eq, rowMatch_eq, ← hi, ← hj]
  · rcases exists_opcode_or_reserved (opField w) with ⟨j, hop⟩ | hres
    · have hz : ¬ j.keepsZeroField w := fun hz => hno j ((and_rowMask_eq_rowMatch_iff w j).2 ⟨hop, hz⟩)
      exact .inr ((decodeRequest_of_opcode hop ws).trans (decodeRow_of_nonzeroField hz ws))
    · exact .inl (decodeRequest_of_reserved hres ws)
  · obtain ⟨hop, hz⟩ := (and_rowMask_eq_rowMatch_iff w i).1 hi
    rw [decodeRequest_of_opcode hop] at h
    rcases Nat.lt_or_ge ws.length (payloadCount w) with hlen | hlen
    · simp [decodeRow_of_short hop hlen] at h
    · rcases decodeRow_of_whole hop hz hlen with ⟨j, hj⟩ | hbad
      · simp [hj] at h
      · cases hbad.symm.trans h
        rfl

theorem decodeRequest_of_short {w : Word} {ws : List Word} (h : ws.length < payloadCount w) :
    decodeRequest (w :: ws) = .incomplete := by
  rcases exists_opcode_or_reserved (opField w) with ⟨i, hop⟩ | hres
  · rw [decodeRequest_of_opcode hop, decodeRow_of_short hop h]
  · simp [payloadCount_of_reserved hres] at h

theorem decodeRequest_of_whole {w : Word} {ws : List Word} (h : payloadCount w ≤ ws.length) :
    (∃ i, decodeRequest (w :: ws) = .legal i (ws.drop (payloadCount w))) ∨
      ∃ why, decodeRequest (w :: ws) = .illegal why (ws.drop (payloadCount w)) := by
  rcases exists_opcode_or_reserved (opField w) with ⟨i, hop⟩ | hres
  · rw [decodeRequest_of_opcode hop]
    by_cases hz : i.keepsZeroField w
    · exact (decodeRow_of_whole hop hz h).imp_right fun hbad => ⟨_, hbad⟩
    · rw [payloadCount_of_nonzeroField hop hz]
      exact .inr ⟨_, decodeRow_of_nonzeroField hz ws⟩
  · rw [payloadCount_of_reserved hres]
    exact .inr ⟨_, decodeRequest_of_reserved hres ws⟩

/-- Settles O4: the two lemmas above; the first clause is the definition of `payloadCount`. -/
theorem headerAloneDecidesTheLength : Obligations.HeaderAloneDecidesTheLength :=
  fun _ _ => ⟨rfl, decodeRequest_of_short, decodeRequest_of_whole⟩

end Sys2Proof
end

section
/-! Acceptance and refusal of requests by `step` (30_encoding.md R50, R58, R59, R62). -/

namespace Sys2Proof.Machine

/-! ## The step in IDLE, by what stands at the interface -/

section
variable {s : State} (hr : s.rst = false) (hs : s.seq = .idle)
include hr hs

theorem step_of_incomplete (h : decodeRequest s.requests = .incomplete) : step s = .next s := by
  simp [step, hr, hs, State.fetch, h]

theorem step_of_illegal {why : Illegal} {rest : List Word} (h : decodeRequest s.requests = .illegal why rest) :
    step s = .next (s.refuseRequest rest) := by
  simp [step, hr, hs, State.fetch, h]

theorem step_of_legal {i : Instr} {rest : List Word} (h : decodeRequest s.requests = .legal i rest) :
    step s = exec i (s.acceptRequest rest) := by
  simp [step, hr, hs, State.fetch, h]

end

/-- Settles O7: taking the request's words is `acceptRequest`. -/
theorem stepRunsTheDecodedOperation : Obligations.StepRunsTheDecodedOperation :=
  fun _ _ _ hr hs h => step_of_legal hr hs h

/-- Settles O8: no word, or fewer than the header counts, is an incomplete request. -/
theorem idleBlockWaitsForAWholeRequest : Obligations.IdleBlockWaitsForAWholeRequest := by
  rintro s hr hs (hnone | ⟨w, ws, hreq, hlen⟩)
  · exact step_of_incomplete hr hs (hnone ▸ rfl)
  · exact step_of_incomplete hr hs (hreq ▸ decodeRequest_of_short hlen)

/-! ## Illegal requests -/

theorem exists_formatN {op : BitVec 4} (h : op ∈ [0x1#4, 0x2#4, 0x3#4, 0x9#4, 0xA#4]) :
    ∃ i : Instr, op = i.opcode ∧ ∀ w, i.keepsZeroField w ↔ lenField w = 0#12 := by
  simp only [List.mem_cons, List.not_mem_nil, or_false] at h
  rcases h with rfl | rfl | rfl | rfl | rfl
  · exact ⟨.init, rfl, fun _ => Iff.rfl⟩
  · exact ⟨.clear, rfl, fun _ => Iff.rfl⟩
  · exact ⟨.home, rfl, fun _ => Iff.rfl⟩
  · exact ⟨.geterr, rfl, fun _ => Iff.rfl⟩
  · exact ⟨.failed, rfl, fun _ => Iff.rfl⟩

theorem exists_formatB {op : BitVec 4} (h : op ∈ [0x7#4, 0x8#4, 0xB#4]) :
    ∃ i : Instr, op = i.opcode ∧ ∀ w, i.keepsZeroField w ↔ lineField w = 0#4 := by
  simp only [List.mem_cons, List.not_mem_nil, or_false] at h
  rcases h with rfl | rfl | rfl
  · exact ⟨.wrcmd 0#8, rfl, fun _ => Iff.rfl⟩
  · exact ⟨.wrdat 0#8, rfl, fun _ => Iff.rfl⟩
  · exact ⟨.setaddr 0#8, rfl, fun _ => Iff.rfl⟩

/-- R59 (b): a must-be-zero field that is not 0. -/
theorem decodeRequest_of_nonzeroField {w : Word} {i : Instr} (hop : opField w = i.opcode) (hz : ¬ i.keepsZeroField w)
    (ws : List Word) : decodeRequest (w :: ws) = .illegal .mustBeZero (ws.drop (payloadCount w)) := by
  rw [decodeRequest_of_opcode hop, decodeRow_of_nonzeroField hz, payloadCount_of_nonzeroField hop hz, List.drop_zero]

/-- R59 (c): a payload word with a bit of 15:8 set. -/
theorem decodeRequest_of_badPayload {w : Word} {ws : List Word} (hop : opField w = 0x6#4 ∨ opField w = 0xC#4)
    (hlen : (lenField w).toNat ≤ ws.length) (hbad : ∃ p ∈ ws.take (lenField w).toNat, payloadHigh p ≠ 0#8) :
    decodeRequest (w :: ws) = .illegal .badPayload (ws.drop (payloadCount w)) := by
  have hnot : ¬ (ws.take (lenField w).toNat).all payloadOk = true := by
    simpa only [List.all_eq_true, payloadOk, beq_iff_eq, not_forall, exists_prop] using hbad
  rw [payloadCount_eq_lenField hop]
  rcases hop with hop | hop
  · exact (decodeRequest_of_opcode (i := .wrstr []) hop ws).trans (decodeS_of_bad hlen hnot)
  · exact (decodeRequest_of_opcode (i := .setpath []) hop ws).trans (decodeS_of_bad hlen hnot)

/-- Settles O6: each case of R59 decodes as illegal with the counted payload words taken, and `refuseRequest` is what
the step does with it. -/
theorem illegalRequestIsRefusedWithoutEffect : Obligations.IllegalRequestIsRefusedWithoutEffect := by
  intro s w ws hr hs hreq hill
  obtain ⟨why, hdec⟩ : ∃ why, decodeRequest (w :: ws) = .illegal why (ws.drop (payloadCount w)) := by
    rcases hill with hres | ⟨hop, hz⟩ | ⟨hop, hz⟩ | ⟨hop, hz⟩ | ⟨hop, hlen, hbad⟩
    · rw [payloadCount_of_reserved hres, List.drop_zero]
      exact ⟨_, decodeRequest_of_reserved hres ws⟩
    · obtain ⟨i, hi, hzero⟩ := exists_formatN hop
      exact ⟨_, decodeRequest_of_nonzeroField hi (mt (hzero w).1 hz) ws⟩
    · obtain ⟨i, hi, hzero⟩ := exists_formatB hop
      exact ⟨_, decodeRequest_of_nonzeroField hi (mt (hzero w).1 hz) ws⟩
    · exact ⟨_, decodeRequest_of_nonzeroField (i := .setdisp false false) hop hz ws⟩
    · exact ⟨_, decodeRequest_of_badPayload (by simpa using hop) hlen hbad⟩
  exact step_of_illegal hr hs (hreq ▸ hdec)

/-! ## Every step answers, every accepted request once -/

theorem exec_answers (i : Instr) (s : State) : ∃ t, exec i s = .next t := by
  rcases exec_cases i s with ⟨e, -⟩ | ⟨e, -⟩ | ⟨-, e⟩ | ⟨-, e⟩ | ⟨a, -, e⟩ | ⟨p, -, e⟩ <;> exact ⟨_, e⟩

/-- Settles O10, along the five things a step can be. -/
theorem everyStepAnswersANextState : Obligations.EveryStepAnswersANextState := by
  intro s
  rcases step_cases s with
    ⟨-, e⟩ | ⟨-, ops, i, -, e⟩ | ⟨-, -, -, e⟩ | ⟨-, -, why, rest, -, e⟩ | ⟨-, -, i, rest, -, e⟩
  case inr.inr.inr.inr =>
    rw [e]
    exact exec_answers i _
  all_goals exact ⟨_, e⟩

/-- `t` came from `s` by an operation with the micro-operations `ops`: it has ended, with one response more that is not
REFUSED, or it runs, with none (30_encoding.md R62). -/
def AnsweredOrRunning (ops : List MicroOp) (s t : State) : Prop :=
  (t.seq = .idle ∧ ∃ r, t.responses = s.responses ++ [r] ∧ r.code ≠ .refused) ∨
    ((∃ n, t.seq = .run ops n) ∧ t.responses = s.responses)

theorem runFrom_answeredOrRunning (ops rest : List MicroOp) (i : Nat) (s : State) :
    AnsweredOrRunning ops s (runFrom ops i rest s) := by
  rcases runFrom_cases ops rest i s with
    ⟨-, sq, -, -, -, re⟩ | ⟨n, m, msg, -, -, -, sq, -, -, -, re⟩ | ⟨n, m, -, -, sq, -, -, re⟩
  · exact .inl ⟨sq, _, re, by simp⟩
  · exact .inl ⟨sq, _, re, by simp⟩
  · exact .inr ⟨⟨_, sq⟩, re⟩

theorem exec_answeredOrRunning {i : Instr} {s t : State} (h : exec i s = .next t) :
    AnsweredOrRunning (expansion s.cfg i) s t := by
  rcases exec_cases i s with ⟨e, -⟩ | ⟨e, -⟩ | ⟨-, e⟩ | ⟨-, e⟩ | ⟨a, -, e⟩ | ⟨p, -, e⟩ <;> cases h.symm.trans e
  · exact runFrom_answeredOrRunning (expansion s.cfg i) _ 0 { s with latches := operandLatches i }
  all_goals exact .inl ⟨by simp, _, by simp; rfl, by simp⟩

/-- Settles O11: the step is `exec`, which answers or leaves its expansion running. -/
theorem oneResponsePerRequest : Obligations.OneResponsePerRequest := by
  intro s t i rest hr hs hdec h
  exact exec_answeredOrRunning (s := s.acceptRequest rest) (step_of_legal hr hs hdec ▸ h)

end Sys2Proof.Machine
end

section
/-! The words of port 1 under R5's constraint on the masks (30_encoding.md R65, 40_framer.md R81). -/

namespace Sys2Proof.Machine

/-! ## Single-bit masks -/

def oneBitBytes : List Byte := [0x01#8, 0x02#8, 0x04#8, 0x08#8, 0x10#8, 0x20#8, 0x40#8, 0x80#8]

theorem oneBitSet_iff_mem (v : Byte) : oneBitSet v = true ↔ v ∈ oneBitBytes := by
  simp [oneBitSet, oneBitBytes, or_assoc]

theorem and_eq_zero_of_oneBitSet {a b : Byte} (ha : oneBitSet a = true) (hb : oneBitSet b = true) (hne : a ≠ b) :
    a &&& b = 0#8 := by
  have hbits : ∀ a ∈ oneBitBytes, ∀ b ∈ oneBitBytes, a ≠ b → a &&& b = 0#8 := by decide
  exact hbits a ((oneBitSet_iff_mem a).1 ha) b ((oneBitSet_iff_mem b).1 hb) hne

/-- R5: the three control lines are three different bits. -/
theorem masks_disjoint {cfg : Params} (h : cfg.masksOk = true) :
    cfg.rsMask &&& cfg.rwMask = 0#8 ∧ cfg.rsMask &&& cfg.enMask = 0#8 ∧ cfg.rwMask &&& cfg.enMask = 0#8 := by
  simp only [Params.masksOk, Bool.and_eq_true, bne_iff_ne] at h
  obtain ⟨⟨⟨⟨⟨hrs, hrw⟩, hen⟩, hrsrw⟩, hrsen⟩, hrwen⟩ := h
  exact ⟨and_eq_zero_of_oneBitSet hrs hrw hrsrw, and_eq_zero_of_oneBitSet hrs hen hrsen,
    and_eq_zero_of_oneBitSet hrw hen hrwen⟩

/-! ## The four control words -/

theorem byte_and_or_self (x y : Byte) : x &&& (x ||| y) = x := by
  ext j
  cases hx : x[j] <;> simp [hx]

theorem byte_and_not_or (x y : Byte) : x &&& ~~~(x ||| y) = 0#8 := by
  ext j
  cases hx : x[j] <;> simp [hx]

theorem ctrlWord_and_rs_or_en {cfg : Params} {v : Byte} (h : v ∈ ctrlWords cfg) :
    v &&& (cfg.rsMask ||| cfg.enMask) = v := by
  simp only [ctrlWords, List.mem_cons, List.not_mem_nil, or_false] at h
  rcases h with rfl | rfl | rfl | rfl
  · exact BitVec.zero_and
  · rw [BitVec.or_comm]
    exact byte_and_or_self ..
  · exact byte_and_or_self ..
  · exact BitVec.and_self

/-- A control word has nothing in common with a byte that has neither the RS nor the EN bit. -/
theorem ctrlWord_and_eq_zero {cfg : Params} {v b : Byte} (h : v ∈ ctrlWords cfg) (hrs : cfg.rsMask &&& b = 0#8)
    (hen : cfg.enMask &&& b = 0#8) : v &&& b = 0#8 :=
  calc v &&& b
    _ = v &&& (cfg.rsMask &&& b ||| cfg.enMask &&& b) := by
      rw [← BitVec.and_or_distrib_right, ← BitVec.and_assoc, ctrlWord_and_rs_or_en h]
    _ = 0#8 := by rw [hrs, hen, BitVec.or_self, BitVec.and_zero]

/-- Settles O35: `expansion_lawful` gives the four words, and these are made of the RS and EN bits only. -/
theorem controlPortGetsFourWordsAndNeverReads : Obligations.ControlPortGetsFourWordsAndNeverReads := by
  intro cfg i v hv
  have hword : v ∈ ctrlWords cfg := by simpa [MicroOp.lawful] using expansion_lawful cfg i _ hv
  refine ⟨hword, ctrlWord_and_eq_zero hword ?_ ?_, fun hmasks => ?_⟩
  · rw [BitVec.or_assoc]
    exact byte_and_not_or ..
  · rw [BitVec.or_comm]
    exact byte_and_not_or ..
  · obtain ⟨hrs, -, hen⟩ := masks_disjoint hmasks
    exact ctrlWord_and_eq_zero hword hrs (BitVec.and_comm .. ▸ hen)

end Sys2Proof.Machine
end

section
/-! The control word (40_framer.md R80): what it has in common with a byte, line by line. -/

namespace Sys2Proof.Machine

theorem oneBitSet_ne_zero {v : Byte} (h : oneBitSet v = true) : v ≠ 0#8 := by
  rintro rfl
  exact absurd h (by decide)

theorem orBit_and (c : Bool) (v m : Byte) : orBit c v &&& m = orBit c (v &&& m) := by
  cases c
  · exact BitVec.zero_and
  · rfl

@[simp] theorem orBit_zero (c : Bool) : orBit c 0#8 = 0#8 := by
  cases c <;> rfl

theorem orBit_ne_zero_iff {c : Bool} {v : Byte} (h : v ≠ 0#8) : orBit c v ≠ 0#8 ↔ c = true := by
  cases c <;> simp [orBit, h]

/-- Each line contributes to the control word on its own. -/
theorem ctrl_and (cfg : Params) (rs rw en : Bool) (m : Byte) :
    ctrl cfg rs rw en &&& m =
      orBit rs (cfg.rsMask &&& m) ||| orBit rw (cfg.rwMask &&& m) ||| orBit en (cfg.enMask &&& m) := by
  simp only [ctrl, BitVec.and_or_distrib_right, orBit_and]

theorem ctrl_and_not_masks (cfg : Params) (rs rw en : Bool) :
    ctrl cfg rs rw en &&& ~~~(cfg.rsMask ||| cfg.rwMask ||| cfg.enMask) = 0#8 := by
  have hrs : cfg.rsMask &&& ~~~(cfg.rsMask ||| cfg.rwMask ||| cfg.enMask) = 0#8 := by
    rw [BitVec.or_assoc]
    exact byte_and_not_or ..
  have hrw : cfg.rwMask &&& ~~~(cfg.rsMask ||| cfg.rwMask ||| cfg.enMask) = 0#8 := by
    rw [BitVec.or_comm cfg.rsMask, BitVec.or_assoc]
    exact byte_and_not_or ..
  have hen : cfg.enMask &&& ~~~(cfg.rsMask ||| cfg.rwMask ||| cfg.enMask) = 0#8 := by
    rw [BitVec.or_comm _ cfg.enMask]
    exact byte_and_not_or ..
  simp [ctrl_and, hrs, hrw, hen]

section
variable {cfg : Params} (h : cfg.masksOk = true)
include h

theorem masks_ne_zero : cfg.rsMask ≠ 0#8 ∧ cfg.rwMask ≠ 0#8 ∧ cfg.enMask ≠ 0#8 := by
  simp only [Params.masksOk, Bool.and_eq_true] at h
  obtain ⟨⟨⟨⟨⟨hrs, hrw⟩, hen⟩, -⟩, -⟩, -⟩ := h
  exact ⟨oneBitSet_ne_zero hrs, oneBitSet_ne_zero hrw, oneBitSet_ne_zero hen⟩

theorem ctrl_rs_iff (rs rw en : Bool) : ctrl cfg rs rw en &&& cfg.rsMask ≠ 0#8 ↔ rs = true := by
  obtain ⟨hrsrw, hrsen, -⟩ := masks_disjoint h
  have hword : ctrl cfg rs rw en &&& cfg.rsMask = orBit rs cfg.rsMask := by
    simp [ctrl_and, BitVec.and_comm cfg.rwMask, BitVec.and_comm cfg.enMask, hrsrw, hrsen]
  rw [hword, orBit_ne_zero_iff (masks_ne_zero h).1]

theorem ctrl_rw_iff (rs rw en : Bool) : ctrl cfg rs rw en &&& cfg.rwMask ≠ 0#8 ↔ rw = true := by
  obtain ⟨hrsrw, -, hrwen⟩ := masks_disjoint h
  have hword : ctrl cfg rs rw en &&& cfg.rwMask = orBit rw cfg.rwMask := by
    simp [ctrl_and, BitVec.and_comm cfg.enMask, hrsrw, hrwen]
  rw [hword, orBit_ne_zero_iff (masks_ne_zero h).2.1]

theorem ctrl_en_iff (rs rw en : Bool) : ctrl cfg rs rw en &&& cfg.enMask ≠ 0#8 ↔ en = true := by
  obtain ⟨-, hrsen, hrwen⟩ := masks_disjoint h
  have hword : ctrl cfg rs rw en &&& cfg.enMask = orBit en cfg.enMask := by
    simp [ctrl_and, hrsen, hrwen]
  rw [hword, orBit_ne_zero_iff (masks_ne_zero h).2.2]

theorem enHigh_ctrl (rs rw en : Bool) : enHigh cfg (ctrl cfg rs rw en) = en :=
  Bool.eq_iff_iff.2 (bne_iff_ne.trans (ctrl_en_iff h rs rw en))

end

/-- Settles O34: `ctrl_and` cuts the word into its three lines, of which a mask meets its own only. -/
theorem controlWordEncodesItsThreeLines : Obligations.ControlWordEncodesItsThreeLines := fun cfg rs rw en h =>
  ⟨rfl, ctrl_rs_iff h rs rw en, ctrl_rw_iff h rs rw en, ctrl_en_iff h rs rw en, ctrl_and_not_masks cfg rs rw en⟩

end Sys2Proof.Machine
end

section
/-! What the expansions are made of (41_command_layer.md, 42_init.md), and the shape of the enable pulse along them
(40_framer.md R83). -/

namespace Sys2Proof.Machine

/-! ## Strobes and waits -/

section
variable {P : List MicroOp → Prop} {cfg : Params} (hnil : P []) (happend : ∀ a b, P a → P b → P (a ++ b))
  (hwait : ∀ c, P [.wait c]) (hstrobe : ∀ rs d, P (strobe cfg (ctrl cfg rs false false) d))

include happend hwait hstrobe in
theorem wrdatOps_of_strobes (b : Byte) : P (wrdatOps cfg b) :=
  happend _ _ (hstrobe true b) (hwait .data)

include happend hwait hstrobe in
theorem wrcmdOps_of_strobes (b : Byte) : P (wrcmdOps cfg b) :=
  happend _ _ (hstrobe false b) (hwait .cmd)

include hnil happend hwait hstrobe

theorem wrstrOps_of_strobes (text : List Byte) : P (wrstrOps cfg text) := by
  induction text with
  | nil => exact hnil
  | cons b text ih => exact happend _ _ (wrdatOps_of_strobes happend hwait hstrobe b) ih

/-- Every operation but INIT is made of strobes with RW and EN low, and of waits: what holds of these and is kept by
appending holds of its expansion. -/
theorem expansion_of_strobes {i : Instr} (hi : i ≠ .init) : P (expansion cfg i) := by
  have hcmd := wrcmdOps_of_strobes happend hwait hstrobe
  cases i with
  | init => exact absurd rfl hi
  | clear => exact happend _ _ (hcmd _) (hwait .clear)
  | home => exact happend _ _ (hcmd _) (hwait .home)
  | setdisp cur blk => exact hcmd _
  | setcur line col =>
    cases hline : lineOf line.toNat with
    | none => simpa only [expansion, hline] using hnil
    | some l => simpa only [expansion, hline, setcurOps] using hcmd (ddramByte cfg l col)
  | wrstr text => exact wrstrOps_of_strobes hnil happend hwait hstrobe text
  | wrcmd b => exact hcmd b
  | wrdat b => exact wrdatOps_of_strobes happend hwait hstrobe b
  | geterr => exact hnil
  | failed => exact hnil
  | setaddr a => exact hnil
  | setpath p => exact hnil

/-- So is INIT from its zero writes on. -/
theorem initOps_drop_of_strobes : P ((expansion cfg .init).drop 4) := by
  have hcmd := wrcmdOps_of_strobes happend hwait hstrobe
  have hentry (e : BannerEntry) : P (bannerEntryOps cfg e) :=
    happend _ _ (hcmd _) (wrstrOps_of_strobes hnil happend hwait hstrobe e.text)
  have hcommands : P (initCommandOps cfg) :=
    happend _ _ (happend _ _ (happend _ _ (happend _ _ (hcmd _) (hwait .fset)) (hcmd _))
      (happend _ _ (hcmd _) (hwait .clear))) (hcmd _)
  have hbanner : P (initBannerOps cfg) :=
    happend _ _ (happend _ _ (happend _ _ (hentry _) (hentry _)) (hentry _)) (hentry _)
  exact happend _ _ (happend _ _ (hwait .boot) hcommands) hbanner

end

/-! ## The pulse -/

/-- From any port 1 with EN low the enable pulse keeps its shape along `ops` (R83). -/
def KeepsPulseShape (cfg : Params) (ops : List MicroOp) : Prop :=
  ∀ o1, enHigh cfg o1 = false → pulseShape cfg o1 ops = true

theorem pulseShape_append {cfg : Params} {a r : List MicroOp} (hr : KeepsPulseShape cfg r) :
    ∀ {o1 : Byte}, pulseShape cfg o1 a = true → pulseShape cfg o1 (a ++ r) = true := by
  induction a with
  | nil => intro o1 h; exact hr o1 (by simpa [pulseShape] using h)
  | cons m a ih =>
    intro o1 h
    cases m with
    | mode p => simp [pulseShape] at h
    | wait c => exact ih h
    | wr p v =>
      cases p with
      | p0 =>
        simp only [pulseShape, Bool.and_eq_true] at h
        simpa [pulseShape, ih h.2] using h.1
      | p1 =>
        simp only [pulseShape, Bool.and_eq_true] at h
        obtain ⟨⟨hbits, hrise⟩, hrest⟩ := h
        have hrise' : (!enHigh cfg v || enHigh cfg o1 || (a ++ r).head? == some (.wait .en)) = true := by
          cases a with
          | nil => simp_all [pulseShape]
          | cons n a => exact hrise
        simp only [List.cons_append, pulseShape, hbits, hrise', ih hrest, Bool.and_self]

theorem keepsPulseShape_append {cfg : Params} (a b : List MicroOp) (ha : KeepsPulseShape cfg a)
    (hb : KeepsPulseShape cfg b) : KeepsPulseShape cfg (a ++ b) := fun o1 h => pulseShape_append hb (ha o1 h)

theorem keepsPulseShape_nil (cfg : Params) : KeepsPulseShape cfg [] := fun o1 h => by simp [pulseShape, h]

theorem keepsPulseShape_wait (cfg : Params) (c : DelayClass) : KeepsPulseShape cfg [.wait c] :=
  keepsPulseShape_nil cfg

theorem or_and_not_self (v m : Byte) : (v ||| m) &&& ~~~m = v &&& ~~~m := by
  simp [BitVec.and_or_distrib_right]

/-- R82, R83: a strobe whose control word has EN low moves EN alone, up at its third micro-operation, before `WAIT EN`,
and down at its last. -/
theorem keepsPulseShape_strobe {cfg : Params} {c : Byte} (hc : enHigh cfg c = false) (d : Byte) :
    KeepsPulseShape cfg (strobe cfg c d) := by
  intro o1 h
  simp [strobe, dataPort, ctrlPort, pulseShape, h, hc, or_and_not_self]

/-- Settles O37: strobes with EN low in their control word and waits keep the shape, and the expansions are made of
them. -/
theorem enablePulseKeepsItsShape : Obligations.EnablePulseKeepsItsShape := by
  intro cfg i o1 hmasks
  have hstrobe (rs : Bool) (d : Byte) : KeepsPulseShape cfg (strobe cfg (ctrl cfg rs false false) d) :=
    keepsPulseShape_strobe (enHigh_ctrl hmasks rs false false) d
  constructor
  · intro hi hlow
    exact expansion_of_strobes (keepsPulseShape_nil cfg) keepsPulseShape_append (keepsPulseShape_wait cfg) hstrobe hi
      o1 hlow
  · have hzero : enHigh cfg 0#8 = false := by simp [enHigh]
    exact initOps_drop_of_strobes (keepsPulseShape_nil cfg) keepsPulseShape_append (keepsPulseShape_wait cfg) hstrobe
      0#8 hzero

end Sys2Proof.Machine
end

section
/-! What the display is presented with when every call is answered ok (40_framer.md R85). -/

namespace Sys2Proof.Machine

/-! ## Along events answered ok -/

theorem headTransaction_okEvents (cfg : Params) (s : State) (ops : List MicroOp) :
    headTransaction cfg (okEvents s ops) =
      (strobeAt cfg ops).map fun cd => { rs := cd.1 &&& cfg.rsMask != 0#8, data := cd.2 } := by
  have hok : ((okEvents s ops).take 5).all (fun e => e.answer == .ok) = true :=
    List.all_eq_true.2 fun e he => by
      obtain ⟨m, -, rfl⟩ := List.mem_map.1 (List.mem_of_mem_take he)
      rfl
  have hops : (okEvents s ops).map Event.op = ops := by simp [okEvents, Function.comp_def]
  rw [headTransaction, if_pos hok, hops]

theorem delivered_okEvents_cons (cfg : Params) (b : Bus) (s : State) (m : MicroOp) (r : List MicroOp) :
    delivered cfg b (okEvents s (m :: r)) =
      (if strobeReaches cfg b then (headTransaction cfg (okEvents s (m :: r))).toList else []) ++
        delivered cfg (b.after m) (okEvents s r) := rfl

/-- A strobe starts with a write to port 0 (R82): where there is none nothing is presented. -/
theorem delivered_okEvents_append_of_noData {cfg : Params} (s : State) (r : List MicroOp) {pre : List MicroOp}
    (hpre : ∀ m ∈ pre, ∀ d, m ≠ .wr .p0 d) (b : Bus) :
    delivered cfg b (okEvents s (pre ++ r)) = delivered cfg (pre.foldl Bus.after b) (okEvents s r) := by
  induction pre generalizing b with
  | nil => rfl
  | cons m pre ih =>
    obtain ⟨hm, hrest⟩ := List.forall_mem_cons.1 hpre
    have hnone : strobeAt cfg (m :: (pre ++ r)) = none := strobeAt_of_head fun d hd => hm d (Option.some.inj hd)
    simp [delivered_okEvents_cons, headTransaction_okEvents, hnone, ih hrest]

/-- R82, R85: a strobe that reaches the display is one transaction, by its data byte and by RS of its control word. -/
theorem delivered_okEvents_strobe_append {cfg : Params} (s : State) (r : List MicroOp) {b : Bus}
    (hb : strobeReaches cfg b = true) (c d : Byte) :
    delivered cfg b (okEvents s (strobe cfg c d ++ r)) =
      { rs := c &&& cfg.rsMask != 0#8, data := d } ::
        delivered cfg ((strobe cfg c d).foldl Bus.after b) (okEvents s r) := by
  have hhead : headTransaction cfg (okEvents s (.wr .p0 d :: ((strobe cfg c d).tail ++ r))) =
      some { rs := c &&& cfg.rsMask != 0#8, data := d } :=
    (headTransaction_okEvents cfg s (strobe cfg c d ++ r)).trans (by rw [strobeAt_strobe_append, Option.map_some])
  have hpulse := delivered_okEvents_append_of_noData (cfg := cfg) s r (pre := (strobe cfg c d).tail)
    (by simp [strobe, ctrlPort]) (b.after (.wr .p0 d))
  refine (delivered_okEvents_cons cfg b s (.wr .p0 d) ((strobe cfg c d).tail ++ r)).trans ?_
  rw [if_pos hb, hhead, hpulse]
  rfl

/-- R83: a strobe with EN low in its control word leaves EN low, and so the bus ready for the next. -/
theorem strobeReaches_foldl_strobe {cfg : Params} {b : Bus} (hb : strobeReaches cfg b = true) {c : Byte}
    (hc : enHigh cfg c = false) (d : Byte) : strobeReaches cfg ((strobe cfg c d).foldl Bus.after b) = true := by
  simp only [strobeReaches, Bool.and_eq_true] at hb ⊢
  obtain ⟨⟨⟨hlost, h0⟩, h1⟩, -⟩ := hb
  have hlast : ((strobe cfg c d).foldl Bus.after b).p1.out = some c := rfl
  exact ⟨⟨⟨hlost, h0⟩, h1⟩, by simp [hlast, hc]⟩

/-! ## Lists that deliver -/

/-- Along `ops`, every call answered ok, a bus on which strobes reach the display presents it with the transactions `ts`
and nothing else, and is such a bus again afterwards. -/
def Delivers (cfg : Params) (ops : List MicroOp) (ts : List Transaction) : Prop :=
  ∀ (s : State) (b : Bus) (r : List MicroOp), strobeReaches cfg b = true →
    ∃ b', strobeReaches cfg b' = true ∧
      delivered cfg b (okEvents s (ops ++ r)) = ts ++ delivered cfg b' (okEvents s r)

theorem Delivers.nil (cfg : Params) : Delivers cfg [] [] := fun _ b _ hb => ⟨b, hb, rfl⟩

theorem Delivers.append {cfg : Params} {a b : List MicroOp} {ts us : List Transaction} (ha : Delivers cfg a ts)
    (hb : Delivers cfg b us) : Delivers cfg (a ++ b) (ts ++ us) := by
  intro s bus r hbus
  obtain ⟨bus₁, hbus₁, e₁⟩ := ha s bus (b ++ r) hbus
  obtain ⟨bus₂, hbus₂, e₂⟩ := hb s bus₁ r hbus₁
  exact ⟨bus₂, hbus₂, by rw [List.append_assoc, e₁, e₂, List.append_assoc]⟩

theorem Delivers.wait (cfg : Params) (c : DelayClass) : Delivers cfg [.wait c] [] := fun s b r hb =>
  ⟨b, hb, delivered_okEvents_append_of_noData s r (pre := [.wait c]) (by simp) b⟩

theorem Delivers.delivered_okEvents {cfg : Params} {ops : List MicroOp} {ts : List Transaction}
    (h : Delivers cfg ops ts) (s : State) {b : Bus} (hb : strobeReaches cfg b = true) :
    delivered cfg b (okEvents s ops) = ts := by
  obtain ⟨b', -, e⟩ := h s b [] hb
  simpa [okEvents, delivered] using e

section
variable {cfg : Params} (hmasks : cfg.masksOk = true)
include hmasks

theorem Delivers.strobe (rs : Bool) (d : Byte) :
    Delivers cfg (strobe cfg (ctrl cfg rs false false) d) [{ rs := rs, data := d }] := by
  intro s b r hb
  have hrs : (ctrl cfg rs false false &&& cfg.rsMask != 0#8) = rs :=
    Bool.eq_iff_iff.2 (bne_iff_ne.trans (ctrl_rs_iff hmasks rs false false))
  refine ⟨_, strobeReaches_foldl_strobe hb (enHigh_ctrl hmasks rs false false) d, ?_⟩
  rw [delivered_okEvents_strobe_append s r hb, hrs, List.singleton_append]

theorem Delivers.wrdatOps (b : Byte) : Delivers cfg (wrdatOps cfg b) [{ rs := true, data := b }] :=
  (Delivers.strobe hmasks true b).append (.wait cfg .data)

theorem Delivers.wrcmdOps (b : Byte) : Delivers cfg (wrcmdOps cfg b) [{ rs := false, data := b }] :=
  (Delivers.strobe hmasks false b).append (.wait cfg .cmd)

theorem Delivers.wrstrOps (text : List Byte) :
    Delivers cfg (wrstrOps cfg text) (text.map fun ch => { rs := true, data := ch }) := by
  induction text with
  | nil => exact .nil cfg
  | cons b text ih => exact (Delivers.wrdatOps hmasks b).append ih

end

/-- What an operation that ends well adds to the trace. -/
theorem trace_drop_of_endsWell {i : Instr} {s t : State} {as : List Answer} {w : Nat}
    (hi : invalidLineRequest i = false) (h : endsWell s (expansion s.cfg i) as w) (ht : exec i s = .next t) :
    t.trace.drop s.trace.length = okEvents s (expansion s.cfg i) := by
  obtain ⟨t', ht', htrace, -⟩ := exec_endsWell i s hi as w h
  obtain rfl : t = t' := by simpa [ht] using ht'
  rw [htrace, List.drop_left]

theorem strobeReaches_bus {s : State} (hlost : s.busLost = false) (h0 : s.port0.dir = .output)
    (h1 : s.port1.dir = .output) (hlow : enHigh s.cfg s.port1.out = false) : strobeReaches s.cfg s.bus = true := by
  simp [strobeReaches, State.bus, PortState.pins, hlost, h0, h1, hlow]

/-- Settles O38: each strobe of the two expansions is one transaction, and leaves the bus ready for the next. -/
theorem displayReceivesTheBytesInOrder : Obligations.DisplayReceivesTheBytesInOrder := by
  intro s t _ hlost h0 h1 hlow hmasks
  have hbus := strobeReaches_bus hlost h0 h1 hlow
  constructor
  · intro text as w hends ht
    rw [trace_drop_of_endsWell rfl hends ht]
    exact (Delivers.wrstrOps hmasks text).delivered_okEvents s hbus
  · intro b as w hends ht
    rw [trace_drop_of_endsWell rfl hends ht]
    exact (Delivers.wrcmdOps hmasks b).delivered_okEvents s hbus

end Sys2Proof.Machine
end

section
/-! The whole results of the command layer's operations (41_command_layer.md sections 2 to 8) when every call is answered
ok and every WAIT runs out, and WRSTR at a failing call. -/

namespace Sys2Proof.Machine

/-- An operation without `MODE` that ends well, whole. -/
theorem runOperation_allOk {ops : List MicroOp} {s : State} {as : List Answer} {w : Nat} (l : Latches)
    (hm : modeCount ops = 0) (h : endsWell s ops as w) :
    runOperation ops l s =
      { s with
        seq := .idle
        latches := Latches.empty
        answers := as
        elapsed := w
        port0 := { s.port0 with out := lastWrite .p0 ops s.port0.out }
        port1 := { s.port1 with out := lastWrite .p1 ops s.port1.out }
        trace := s.trace ++ okEvents s ops
        responses := s.responses ++ [{ code := .ok, value := .none }] } :=
  runFrom_allOk ops as w ops 0 { s with latches := l } hm h

/-! ## One command write -/

@[simp] theorem lastWrite_p0_commandWrite (cfg : Params) (b v : Byte) : lastWrite .p0 (commandWrite cfg b) v = b := rfl

@[simp] theorem lastWrite_p1_commandWrite (cfg : Params) (b v : Byte) : lastWrite .p1 (commandWrite cfg b) v = 0#8 :=
  rfl

theorem modeCount_of_portCount_eq_zero {ops : List MicroOp} (h : portCount ops = 0) : modeCount ops = 0 := by
  induction ops with
  | nil => rfl
  | cons m ops ih =>
    cases m with
    | mode p => cases h
    | wr p v => cases h
    | wait c => exact ih h

theorem lastWrite_of_portCount_eq_zero {ops : List MicroOp} (h : portCount ops = 0) (p : Port) (v : Byte) :
    lastWrite p ops v = v := by
  induction ops with
  | nil => rfl
  | cons m ops ih =>
    cases m with
    | mode q => cases h
    | wr q u => cases h
    | wait c => exact ih h

/-- An operation that is one command write and then waits only (R92, R104). -/
theorem exec_commandWrite {i : Instr} {s : State} {b : Byte} {extra : List MicroOp} {as : List Answer} {w : Nat}
    (hops : expansion s.cfg i = commandWrite s.cfg b ++ extra) (hwaits : portCount extra = 0)
    (ha : s.answers = .ok :: .ok :: .ok :: .ok :: as) (he : s.elapsed = w + 2 + waitCount extra) :
    exec i s = .next (commandDone s as w b extra) := by
  have hfirst : (expansion s.cfg i)[0]? = some (.wr .p0 b) := by rw [hops]; rfl
  have hmode : modeCount (commandWrite s.cfg b ++ extra) = 0 := by
    simp [modeCount_of_portCount_eq_zero hwaits]
  have hends : endsWell s (commandWrite s.cfg b ++ extra) as w :=
    ⟨by simpa [hwaits, List.replicate_succ] using ha, by simp [he]; omega⟩
  rw [exec_of_getElem? hfirst, hops, runOperation_allOk _ hmode hends]
  simp [commandDone, lastWrite_append, lastWrite_of_portCount_eq_zero hwaits]

/-- Settles O24: WRCMD is one command write of its operand. -/
theorem wrcmdWritesOneCommandByte : Obligations.WrcmdWritesOneCommandByte := fun b s _ _ ha he =>
  exec_commandWrite (by simp [expansion, wrcmdOps_eq]) rfl ha he

/-- Settles O25: each is one command write and one wait of its own. -/
theorem clearAndHomeAddTheirOwnWait : Obligations.ClearAndHomeAddTheirOwnWait := fun s _ _ ha he =>
  ⟨exec_commandWrite (by simp [expansion, clearOps, wrcmdOps_eq]) rfl ha he,
    exec_commandWrite (by simp [expansion, homeOps, wrcmdOps_eq]) rfl ha he⟩

/-- Settles O26: `dispByte` is the byte R95 composes. -/
theorem setdispWritesTheComposedByte : Obligations.SetdispWritesTheComposedByte := fun cur blk s _ _ ha he =>
  exec_commandWrite (by simp [expansion, setdispOps, wrcmdOps_eq, dispByte, orBit]) rfl ha he

/-! ## The cursor position -/

/-- R99: an 8-bit addition. -/
theorem ddramAddress_toNat (cfg : Params) (l : DisplayLine) (col : Byte) :
    (ddramAddress cfg l col).toNat = ((lineBase cfg l).toNat + col.toNat) % 256 :=
  BitVec.toNat_add ..

/-- The last of R5's line bases is 0x54, so that no column of the display carries. -/
theorem lineBase_default_le (l : DisplayLine) : (lineBase Config.default l).toNat ≤ 0x54 := by
  cases l <;> decide

/-- CMD_SET_DDRAM is bit 7 alone, which an address below 128 leaves free. -/
theorem toNat_setDdram_or {v : Byte} (h : v.toNat < 128) : (0x80#8 ||| v).toNat = 0x80 + v.toNat :=
  (BitVec.toNat_or ..).trans (Nat.two_pow_add_eq_or_of_lt (i := 7) h 1).symm

/-- Settles O43: base and column stay below 128 with the defaults, so the sum is below 256 and bit 7 is free. -/
theorem lineAddressArithmetic : Obligations.LineAddressArithmetic := by
  refine ⟨ddramAddress_toNat, fun l col hcol => ?_⟩
  have hbase := lineBase_default_le l
  have hcol' : col.toNat < 20 := hcol
  have haddr : (lineBase Config.default l + col).toNat = (lineBase Config.default l).toNat + col.toNat := by
    rw [BitVec.toNat_add, Nat.mod_eq_of_lt (by omega)]
  rw [ddramByte_default, toNat_setDdram_or (by omega), haddr, Nat.add_assoc]

theorem exists_displayLine_of_line_base {cfg : Params} {line : BitVec 4} {base : Byte}
    (h : (line = 1#4 ∧ base = cfg.lineBase1) ∨ (line = 2#4 ∧ base = cfg.lineBase2) ∨
      (line = 3#4 ∧ base = cfg.lineBase3) ∨ (line = 4#4 ∧ base = cfg.lineBase4)) :
    ∃ l, lineOf line.toNat = some l ∧ base = lineBase cfg l := by
  rcases h with ⟨rfl, h⟩ | ⟨rfl, h⟩ | ⟨rfl, h⟩ | ⟨rfl, h⟩
  · exact ⟨.l1, rfl, h⟩
  · exact ⟨.l2, rfl, h⟩
  · exact ⟨.l3, rfl, h⟩
  · exact ⟨.l4, rfl, h⟩

/-- Settles O27: the 8-bit sum is the byte of the sum mod 256. -/
theorem setcurWritesTheLineAddress : Obligations.SetcurWritesTheLineAddress := by
  intro line col base s as w ha he hline
  obtain ⟨l, hl, rfl⟩ := exists_displayLine_of_line_base hline
  rw [← ddramAddress_toNat, BitVec.ofNat_toNat, BitVec.setWidth_eq]
  exact exec_commandWrite (by simp [expansion, hl, setcurOps, wrcmdOps_eq, ddramByte]) rfl ha he

/-- Settles O22: a line outside {1,2,3,4} is an invalid-line request, which `exec` answers with the failure entry. -/
theorem setcurInvalidLineFailsWithoutBusAccess : Obligations.SetcurInvalidLineFailsWithoutBusAccess :=
  fun line col s h => exec_invalidLine (i := .setcur line col) ((lineOf_isNone _).2 h) s

/-! ## Data writes -/

@[simp] theorem lastWrite_p0_dataWrite (cfg : Params) (b v : Byte) : lastWrite .p0 (dataWrite cfg b) v = b := rfl

@[simp] theorem lastWrite_p1_dataWrite (cfg : Params) (b v : Byte) : lastWrite .p1 (dataWrite cfg b) v = cfg.rsMask :=
  rfl

theorem lastWrite_p0_text (cfg : Params) (text : List Byte) (v : Byte) :
    lastWrite .p0 (text.flatMap (dataWrite cfg)) v = text.getLastD v := by
  induction text generalizing v with
  | nil => rfl
  | cons b text ih =>
    rw [List.flatMap_cons, lastWrite_append, lastWrite_p0_dataWrite, ih, List.getLastD_cons]

theorem lastWrite_p1_text (cfg : Params) (text : List Byte) (v : Byte) :
    lastWrite .p1 (text.flatMap (dataWrite cfg)) v = if text = [] then v else cfg.rsMask := by
  induction text generalizing v with
  | nil => rfl
  | cons b text ih =>
    rw [List.flatMap_cons, lastWrite_append, lastWrite_p1_dataWrite, ih, ite_self, if_neg (List.cons_ne_nil b text)]

theorem exec_wrdat (b : Byte) (s : State) :
    exec (.wrdat b) s = .next (runOperation (dataWrite s.cfg b) Latches.empty s) := by
  rw [← wrdatOps_eq]; rfl

theorem exec_wrstr (text : List Byte) (s : State) :
    exec (.wrstr text) s =
      .next (runOperation (text.flatMap (dataWrite s.cfg)) { Latches.empty with text := some text } s) := by
  rw [← wrstrOps_eq]; rfl

/-- Settles O23: WRDAT is one data write of its operand. -/
theorem wrdatWritesOneDataByte : Obligations.WrdatWritesOneDataByte := by
  intro b s as w ha he
  have hends : endsWell s (dataWrite s.cfg b) as w := ⟨ha, he.trans (Nat.add_comm w 2)⟩
  rw [exec_wrdat, runOperation_allOk _ (modeCount_dataWrite ..) hends, lastWrite_p0_dataWrite, lastWrite_p1_dataWrite]

/-- Settles O28: WRSTR is the data writes of its bytes, one after the other. -/
theorem wrstrWritesEachByteInOrder : Obligations.WrstrWritesEachByteInOrder := by
  intro text s as w ha he
  have hends : endsWell s (text.flatMap (dataWrite s.cfg)) as w :=
    ⟨by rw [portCount_text]; exact ha, by rw [waitCount_text, he, Nat.add_comm]⟩
  rw [exec_wrstr, runOperation_allOk _ (modeCount_text ..) hends, lastWrite_p0_text, lastWrite_p1_text]

/-- A data write cut at one of its four calls: the enable wait stands before the last of them. -/
theorem dataWrite_cut_at_call (cfg : Params) (b : Byte) (j : Fin 4) :
    ∃ part last rest, dataWrite cfg b = part ++ last :: rest ∧ portCount part = j.val ∧
      waitCount part = (if j.val = 3 then 1 else 0) ∧ last.isPort = true :=
  match j with
  | 0 => ⟨[], _, _, rfl, rfl, rfl, rfl⟩
  | 1 => ⟨[_], _, _, rfl, rfl, rfl, rfl⟩
  | 2 => ⟨[_, _], _, _, rfl, rfl, rfl, rfl⟩
  | 3 => ⟨[_, _, _, _], _, _, rfl, rfl, rfl, rfl⟩

theorem expansion_wrstr_cut {cfg : Params} {ch : Byte} {part rest : List MicroOp} {last : MicroOp}
    (hcut : dataWrite cfg ch = part ++ last :: rest) (done later : List Byte) :
    expansion cfg (.wrstr (done ++ ch :: later)) =
      (done.flatMap (dataWrite cfg) ++ part) ++ last :: (rest ++ later.flatMap (dataWrite cfg)) := by
  simp [expansion, wrstrOps_eq, hcut]

/-- An operation whose expansion is cut at the failing call (R102): `exec_fails` without the position's number. -/
theorem exec_fails_after {i : Instr} {s : State} {pre post : List MicroOp} {m : MicroOp} {msg : List Byte}
    {as : List Answer} {w : Nat} (hops : expansion s.cfg i = pre ++ m :: post) (hm : m.isPort = true)
    (h : endsWell s pre (.fail msg :: as) w) :
    ∃ t, exec i s = .next t ∧
      t.trace = s.trace ++ okEvents s pre ++ [{ op := m, answer := .fail msg, addr := s.addr, path := s.path }] ∧
      t.fail = true ∧ t.err = { kind := .transport, text := msg } ∧ t.seq = .idle ∧
      t.responses = s.responses ++ [{ code := .fail, value := .none }] := by
  have htake : (expansion s.cfg i).take pre.length = pre := by rw [hops, List.take_left]
  obtain ⟨t, ht, htrace, hseq, -, -, -, hfail, herr, -, hresp⟩ :=
    exec_fails i s pre.length m msg as w (by simp [hops]) hm (by rwa [htake])
  exact ⟨t, ht, htake ▸ htrace, hfail, herr, hseq, hresp⟩

/-- Settles O29: the failing call cuts the data write of its own character, with those of `done` whole before it. -/
theorem wrstrStopsAtTheFailingCharacter : Obligations.WrstrStopsAtTheFailingCharacter := by
  intro done later ch s j msg as ha he
  obtain ⟨part, last, rest, hcut, hcalls, hwaits, hlast⟩ := dataWrite_cut_at_call s.cfg ch j
  obtain ⟨w, hw⟩ := Nat.exists_eq_add_of_le he
  have hends : endsWell s (done.flatMap (dataWrite s.cfg) ++ part) (.fail msg :: as) w :=
    ⟨by rw [portCount_append, portCount_text, hcalls, ha], by rw [waitCount_append, waitCount_text, hwaits, hw]⟩
  obtain ⟨t, ht, htrace, hend⟩ := exec_fails_after (expansion_wrstr_cut hcut done later) hlast hends
  have hevents : okEvents s (done.flatMap (dataWrite s.cfg) ++ part) =
      okEvents s (done.flatMap (dataWrite s.cfg)) ++ okEvents s part := List.map_append
  exact ⟨t, part, last, ht, ⟨rest, by simp [hcut]⟩, hcalls, hlast, by rw [htrace, hevents, ← List.append_assoc], hend⟩

end Sys2Proof.Machine
end

section
/-! INIT (42_init.md): its size, its result when every call is answered ok, what it tells the display, and its failing
at a port mode. -/

namespace Sys2Proof.Machine

/-! ## INIT as command and data writes -/

theorem initCommandOps_eq (cfg : Params) :
    initCommandOps cfg =
      commandWrite cfg (fsetByte cfg) ++ [.wait .fset] ++ commandWrite cfg (dispByte cfg false false) ++
        (commandWrite cfg cfg.cmdClearDisplay ++ [.wait .clear]) ++ commandWrite cfg (entryByte cfg) := by
  simp only [initCommandOps, setdispOps, clearOps, wrcmdOps_eq]

theorem bannerEntryOps_eq (cfg : Params) (e : BannerEntry) :
    bannerEntryOps cfg e = commandWrite cfg (ddramByte cfg e.line e.col) ++ e.text.flatMap (dataWrite cfg) := by
  simp only [bannerEntryOps, setcurOps, wrcmdOps_eq, wrstrOps_eq]

/-! ## Its size (R115) -/

section
variable {f : List MicroOp → Nat} {cfg : Params} {c d : Nat} (happend : ∀ a b, f (a ++ b) = f a + f b)
  (hcommand : ∀ b, f (commandWrite cfg b) = c) (hdata : ∀ b, f (dataWrite cfg b) = d)

include happend hdata in
/-- What is counted by adding up counts a text by its bytes. -/
theorem additive_text (text : List Byte) : f (text.flatMap (dataWrite cfg)) = d * text.length := by
  induction text with
  | nil =>
    have hnil : f [] = f [] + f [] := happend [] []
    simpa using hnil
  | cons b text ih => rw [List.flatMap_cons, happend, hdata, ih, List.length_cons, Nat.mul_succ, Nat.add_comm]

include happend hcommand hdata in
/-- INIT is its port steps, two waits of its own, eight command writes, and a data write for each byte of the banner:
what is counted by adding up is the sum over these. -/
theorem additive_expansion_init :
    f (expansion cfg .init) =
      f initPortOps + f [.wait .fset] + f [.wait .clear] + 8 * c + d * bannerLength cfg := by
  simp only [expansion, initOps, initCommandOps_eq, initBannerOps, bannerEntryOps_eq, happend, hcommand,
    additive_text happend hdata, bannerLength]
  ring

end

theorem portCount_expansion_init (cfg : Params) : portCount (expansion cfg .init) = 36 + 4 * bannerLength cfg :=
  additive_expansion_init portCount_append (portCount_commandWrite cfg) (portCount_dataWrite cfg)

theorem waitCount_expansion_init (cfg : Params) : waitCount (expansion cfg .init) = 19 + 2 * bannerLength cfg :=
  additive_expansion_init waitCount_append (waitCount_commandWrite cfg) (waitCount_dataWrite cfg)

theorem modeCount_expansion_init (cfg : Params) : modeCount (expansion cfg .init) = 2 := by
  rw [expansion_init_eq, modeCount, modeCount, modeCount_initOpsAfterModes]

theorem writeCount_expansion_init (cfg : Params) : writeCount (expansion cfg .init) = 34 + 4 * bannerLength cfg :=
  additive_expansion_init (c := 4) (d := 4) writeCount_append (fun _ => rfl) fun _ => rfl

theorem length_expansion_init (cfg : Params) : (expansion cfg .init).length = 55 + 6 * bannerLength cfg :=
  additive_expansion_init (c := 6) (d := 6) (fun _ _ => List.length_append) (fun _ => rfl) fun _ => rfl

theorem leastTimeUs_expansion_init (cfg : Params) :
    leastTimeUs cfg (expansion cfg .init) =
      delayUs cfg .boot + delayUs cfg .fset + delayUs cfg .clear + 8 * (delayUs cfg .en + delayUs cfg .cmd) +
        (delayUs cfg .en + delayUs cfg .data) * bannerLength cfg :=
  additive_expansion_init (leastTimeUs_append cfg) (fun _ => rfl) fun _ => rfl

/-- Settles O46: each count is additive, so it is a sum over INIT's parts. -/
theorem initSizeAndDuration : Obligations.InitSizeAndDuration := by
  refine fun cfg => ⟨modeCount_expansion_init cfg, writeCount_expansion_init cfg, length_expansion_init cfg,
    fun hdelays => ?_⟩
  rw [leastTimeUs_expansion_init, hdelays]
  rfl

/-! ## Its result (R110, R111) -/

theorem State.port0_makeOutput (s : State) (p : Port) :
    ((s.setOutput p).loseOut p).port0 =
      if p = .p0 then { out := Config.freePins s.free, dir := .output } else s.port0 := by cases p <;> rfl

theorem State.port1_makeOutput (s : State) (p : Port) :
    ((s.setOutput p).loseOut p).port1 =
      if p = .p1 then { out := Config.freePins s.free, dir := .output } else s.port1 := by cases p <;> rfl

theorem Latches.atStrobe_mode (cfg : Params) (p : Port) (r : List MicroOp) (l : Latches) :
    l.atStrobe cfg (.mode p :: r) = l := rfl

/-- INIT past its two `MODE`s, whole (`runFrom_init_modes` says what it is for the ports and the inputs). -/
theorem runFrom_modes (ops rest : List MicroOp) (as : List Answer) (s : State) (h : s.answers = .ok :: .ok :: as) :
    runFrom ops 0 (.mode .p0 :: .mode .p1 :: rest) s = runFrom ops 2 rest
      { s with
        seq := .run ops 1
        answers := as
        port0 := { out := Config.freePins s.free, dir := .output }
        port1 := { out := Config.freePins (s.free + 1), dir := .output }
        busLost := false
        trace := s.trace ++ okEvents s [.mode .p0, .mode .p1]
        free := s.free + 2 } := by
  have h0 := perform_mode_ok .p0 (s.atPosition ops 0 (.mode .p0 :: .mode .p1 :: rest)) _ h
  refine (runFrom_done h0).trans ((runFrom_done (perform_mode_ok .p1 _ as rfl)).trans
    (congrArg (runFrom ops 2 rest) ?_))
  ext <;> simp [okEvents, State.port0_makeOutput, State.port1_makeOutput, Latches.atStrobe_mode]

/-- The whole result of a list that ends well and whose only `MODE`s are one for each port at its head: as without
`MODE` (`runFrom_allOk`), from outputs with free values. -/
theorem runFrom_allOk_after_modes (ops rest : List MicroOp) (as : List Answer) (w : Nat) (s : State)
    (hm : modeCount rest = 0) (h : endsWell s (.mode .p0 :: .mode .p1 :: rest) as w) :
    runFrom ops 0 (.mode .p0 :: .mode .p1 :: rest) s =
      { s with
        seq := .idle
        latches := Latches.empty
        answers := as
        elapsed := w
        port0 := { out := lastWrite .p0 rest (Config.freePins s.free), dir := .output }
        port1 := { out := lastWrite .p1 rest (Config.freePins (s.free + 1)), dir := .output }
        busLost := false
        trace := s.trace ++ okEvents s (.mode .p0 :: .mode .p1 :: rest)
        responses := s.responses ++ [{ code := .ok, value := .none }]
        free := s.free + 2 } := by
  obtain ⟨ha, he⟩ := h
  rw [runFrom_modes ops rest _ s ha]
  refine (runFrom_allOk ops as w rest 2 _ hm ?_).trans ?_
  · exact ⟨rfl, he⟩
  · simp [okEvents]

/-- INIT's zero writes leave nothing of what the ports held before (R111). -/
theorem lastWrite_initOpsAfterModes (cfg : Params) (p : Port) (v : Byte) :
    lastWrite p (initOpsAfterModes cfg) v = lastWrite p (expansion cfg .init) 0#8 := by
  cases p <;> rfl

/-- Settles O30: the spelled-out steps are the expansion, which is two `MODE`s and then a list without one. -/
theorem initPerformsTheNineSteps : Obligations.InitPerformsTheNineSteps := by
  intro s as w ops ha he hops
  obtain rfl : ops = expansion s.cfg .init := by
    simp only [hops, expansion, initOps, initPortOps, initCommandOps_eq, initBannerOps, bannerEntryOps_eq, fsetByte,
      entryByte, List.append_assoc]
  have hends : endsWell { s with latches := operandLatches .init } (expansion s.cfg .init) as w :=
    ⟨by rw [portCount_expansion_init]; exact ha, by rw [waitCount_expansion_init, Nat.add_comm]; exact he⟩
  have hrun := runFrom_allOk_after_modes (expansion s.cfg .init) (initOpsAfterModes s.cfg) as w _
    (modeCount_initOpsAfterModes s.cfg) hends
  rw [lastWrite_initOpsAfterModes, lastWrite_initOpsAfterModes] at hrun
  exact congrArg Host.Outcome.next hrun

/-! ## What it tells the display (R114) -/

/-- A write to each port and then a wait is no strobe: EN has not risen (40_framer.md R82). -/
theorem strobeAt_writes_wait (cfg : Params) (d c : Byte) (x : DelayClass) (r : List MicroOp) :
    strobeAt cfg (.wr .p0 d :: .wr .p1 c :: .wait x :: r) = none := by
  simp [strobeAt, strobe, List.isPrefixOf]

/-- INIT's port steps present nothing: no strobe starts at any of them (R111). -/
theorem delivered_okEvents_initPortOps_append (cfg : Params) (s : State) (r : List MicroOp) (b : Bus) :
    delivered cfg b (okEvents s (initPortOps ++ r)) =
      delivered cfg (initPortOps.foldl Bus.after b) (okEvents s r) := by
  have hmodes := delivered_okEvents_append_of_noData (cfg := cfg) s (initPortOps.drop 2 ++ r)
    (pre := [.mode .p0, .mode .p1]) (by simp) b
  have hwait (b' : Bus) := delivered_okEvents_append_of_noData (cfg := cfg) s r (pre := initPortOps.drop 3)
    (by simp [initPortOps]) b'
  refine hmodes.trans ((delivered_okEvents_cons cfg _ s (.wr .p0 0#8) (initPortOps.drop 3 ++ r)).trans ?_)
  have hnone : strobeAt cfg (.wr .p0 0#8 :: (initPortOps.drop 3 ++ r)) = none := strobeAt_writes_wait cfg ..
  rw [headTransaction_okEvents, hnone, Option.map_none, Option.toList_none, ite_self, hwait]
  rfl

/-- R111, R137: whatever was known of the bus, INIT's port steps leave one on which a strobe reaches the display. -/
theorem strobeReaches_foldl_initPortOps (cfg : Params) (b : Bus) :
    strobeReaches cfg (initPortOps.foldl Bus.after b) = true := by
  simp [strobeReaches, initPortOps, Bus.after, Pins.after, enHigh]

section
variable {cfg : Params} (hmasks : cfg.masksOk = true)
include hmasks

theorem Delivers.initCommandOps :
    Delivers cfg (initCommandOps cfg)
      [ { rs := false, data := fsetByte cfg }, { rs := false, data := dispByte cfg false false },
        { rs := false, data := cfg.cmdClearDisplay }, { rs := false, data := entryByte cfg } ] :=
  have hcommand := Delivers.wrcmdOps hmasks
  ((((hcommand _).append (.wait cfg .fset)).append (hcommand _)).append
    ((hcommand _).append (.wait cfg .clear))).append (hcommand _)

theorem Delivers.bannerEntryOps (e : BannerEntry) :
    Delivers cfg (bannerEntryOps cfg e)
      ({ rs := false, data := ddramByte cfg e.line e.col } :: e.text.map fun ch => { rs := true, data := ch }) :=
  (Delivers.wrcmdOps hmasks _).append (Delivers.wrstrOps hmasks e.text)

theorem Delivers.initBannerOps :
    Delivers cfg (initBannerOps cfg)
      ([cfg.banner.b0, cfg.banner.b1, cfg.banner.b2, cfg.banner.b3].flatMap fun e =>
        { rs := false, data := ddramByte cfg e.line e.col } :: e.text.map fun ch => { rs := true, data := ch }) := by
  have hentry := Delivers.bannerEntryOps hmasks
  have hall := (((hentry cfg.banner.b0).append (hentry cfg.banner.b1)).append (hentry cfg.banner.b2)).append
    (hentry cfg.banner.b3)
  simpa only [Machine.initBannerOps, List.flatMap_cons, List.flatMap_nil, List.append_nil, List.append_assoc] using hall

end

/-- Settles O39: the port steps present nothing and make the bus usable, and every command and data write after them is
one transaction. -/
theorem initTellsTheDisplayItsSettings : Obligations.InitTellsTheDisplayItsSettings := by
  intro s t as w hmasks hends ht
  have hdisp : dispByte s.cfg false false = s.cfg.cmdDisplayControl ||| s.cfg.displayOn := by simp [dispByte, orBit]
  have hdelivers := (Delivers.initCommandOps hmasks).append (Delivers.initBannerOps hmasks)
  rw [hdisp] at hdelivers
  rw [trace_drop_of_endsWell rfl hends ht, expansion, initOps, List.append_assoc,
    delivered_okEvents_initPortOps_append]
  exact hdelivers.delivered_okEvents s (strobeReaches_foldl_initPortOps s.cfg s.bus)

/-! ## Its port modes failing (R112) -/

theorem perform_mode_fail (p : Port) (s : State) (msg : List Byte) (as : List Answer)
    (h : s.answers = .fail msg :: as) :
    perform (.mode p) s = .failed
      (({ s with answers := as, adapterErr := msg, busLost := true } : State).loseOut p
        |>.logEvent (.mode p) (.fail msg)) := by
  simp [perform, portMode, h]

/-- A failing `MODE` leaves every direction, its own port's too (log 9), and the whole of the other port. -/
theorem runFrom_mode_fails (ops post : List MicroOp) (p : Port) (msg : List Byte) (as : List Answer) (i : Nat)
    (s : State) (h : s.answers = .fail msg :: as) :
    (∀ q, ((runFrom ops i (.mode p :: post) s).port q).dir = (s.port q).dir) ∧
      ∀ q, q ≠ p → (runFrom ops i (.mode p :: post) s).port q = s.port q := by
  rw [runFrom_failed (perform_mode_fail p _ msg as h)]
  refine ⟨fun q => ?_, fun q hq => ?_⟩
  · cases p <;> cases q <;> rfl
  · exact (State.port_loseOut _ p q).trans ((if_neg hq).trans (by cases q <;> rfl))

/-- A `MODE` answered ok makes its own port an output and leaves the other. -/
theorem runFrom_mode_ok (ops rest : List MicroOp) (p : Port) (as : List Answer) (i : Nat) (s : State)
    (h : s.answers = .ok :: as) :
    ∃ u, runFrom ops i (.mode p :: rest) s = runFrom ops (i + 1) rest u ∧ u.answers = as ∧
      (u.port p).dir = .output ∧ ∀ q, q ≠ p → u.port q = s.port q := by
  refine ⟨_, runFrom_done (perform_mode_ok p _ as h), by simp, ?_, fun q hq => ?_⟩
  · simp [State.port_loseOut, State.port_setOutput]
  · simp only [State.logEvent_port, State.port_loseOut, State.port_setOutput, if_neg hq]
    cases q <;> rfl

/-- Settles O19: `MODE 0` fails where INIT starts, `MODE 1` after `MODE 0` has made port 0 an output. -/
theorem initFailsAtItsPortModes : Obligations.InitFailsAtItsPortModes := by
  intro s msg as
  have hrun : exec .init s = .next (runOperation (expansion s.cfg .init) Latches.empty s) := rfl
  constructor
  · intro h
    have hends : endsWell s [] (.fail msg :: as) s.elapsed := ⟨h, (Nat.zero_add _).symm⟩
    obtain ⟨t, ht, htrace, hfail, herr, -⟩ := exec_fails_after (expansion_init_eq s.cfg) rfl hends
    obtain rfl : t = _ := Host.Outcome.next.inj (ht.symm.trans hrun)
    obtain ⟨hdir, hother⟩ := runFrom_mode_fails (expansion s.cfg .init) (.mode .p1 :: initOpsAfterModes s.cfg) .p0
      msg as 0 { s with latches := Latches.empty } h
    exact ⟨_, ht, hdir .p0, hother .p1 nofun, hfail, herr, by simpa [okEvents] using htrace⟩
  · intro h
    have hends : endsWell s [.mode .p0] (.fail msg :: as) s.elapsed := ⟨h, (Nat.zero_add _).symm⟩
    obtain ⟨t, ht, htrace, hfail, herr, -⟩ := exec_fails_after (expansion_init_eq s.cfg) rfl hends
    obtain rfl : t = _ := Host.Outcome.next.inj (ht.symm.trans hrun)
    obtain ⟨u, hu, ua, hout, hsame⟩ := runFrom_mode_ok (expansion s.cfg .init)
      (.mode .p1 :: initOpsAfterModes s.cfg) .p0 (.fail msg :: as) 0 { s with latches := Latches.empty } h
    obtain ⟨hdir, -⟩ := runFrom_mode_fails (expansion s.cfg .init) (initOpsAfterModes s.cfg) .p1 msg as 1 u ua
    rw [← hu] at hdir
    exact ⟨_, ht, (hdir .p0).trans hout, (hdir .p1).trans (congrArg PortState.dir (hsame .p1 nofun)), hfail, herr,
      htrace⟩

end Sys2Proof.Machine
end

section
/-! The status and configuration operations (43_status_config.md R120 to R123). -/

namespace Sys2Proof.Machine

theorem exec_geterr (s : State) : exec .geterr s = .next (s.complete (.err s.err)) := rfl

theorem exec_failed (s : State) : exec .failed s = .next (s.complete (.flag s.fail)) := rfl

theorem exec_setaddr (addr : Byte) (s : State) :
    exec (.setaddr addr) s = .next ((s.setEndpoint (addr.toNat : Int) s.path).complete .none) := rfl

theorem exec_setpath (path : List Byte) (s : State) :
    exec (.setpath path) s = .next ((s.setEndpoint s.addr path).complete .none) := rfl

/-- Settles O31: each completes at once with the record it reads, and `complete` writes only SEQ, the latches and the
responses. -/
theorem statusOperationsReadWithoutWriting : Obligations.StatusOperationsReadWithoutWriting :=
  fun s => ⟨exec_geterr s, exec_failed s⟩

/-- Settles O32: `setEndpoint` forgets the ports exactly where the address is another one. -/
theorem setaddrStoresTheAddress : Obligations.SetaddrStoresTheAddress := by
  intro addr s
  rw [exec_setaddr]
  split
  case isTrue hsame =>
    rw [hsame, State.setEndpoint_same]
    rfl
  case isFalse hother =>
    rw [State.setEndpoint_other _ _ _ fun ⟨haddr, _⟩ => hother haddr]
    rfl

/-- Settles O33: `setEndpoint` forgets the ports exactly where the path is another one. -/
theorem setpathStoresThePath : Obligations.SetpathStoresThePath := by
  intro path s
  rw [exec_setpath]
  split
  case isTrue hsame =>
    rw [hsame, State.setEndpoint_same]
    rfl
  case isFalse hother =>
    rw [State.setEndpoint_other _ _ _ fun ⟨_, hpath⟩ => hother hpath]
    rfl

end Sys2Proof.Machine
end

section
/-! What holds of every state the machine can come to: the parameters (10_state.md R24) and the invariant. -/

namespace Sys2Proof.Machine

/-! ## The parameters -/

theorem exec_cfg {i : Instr} {s t : State} (h : exec i s = .next t) : t.cfg = s.cfg := by
  rcases exec_cases i s with ⟨e, -⟩ | ⟨e, -⟩ | ⟨-, e⟩ | ⟨-, e⟩ | ⟨a, -, e⟩ | ⟨p, -, e⟩ <;> cases h.symm.trans e
  case inl => exact runFrom_cfg ..
  all_goals simp

theorem step_cfg {s t : State} (h : step s = .next t) : t.cfg = s.cfg := by
  rcases step_cases s with
    ⟨-, e⟩ | ⟨-, ops, i, -, e⟩ | ⟨-, -, -, e⟩ | ⟨-, -, why, rest, -, e⟩ | ⟨-, -, i, rest, -, e⟩
  · cases h.symm.trans e
    exact State.resetEvent_cfg s
  · cases h.symm.trans e
    exact runFrom_cfg ..
  · cases h.symm.trans e
    rfl
  · cases h.symm.trans e
    exact State.refuseRequest_cfg ..
  · exact exec_cfg (s := s.acceptRequest rest) (e ▸ h)

theorem Reachable.cfg_eq {s₀ s : State} (h : Reachable s₀ s) : s.cfg = s₀.cfg := by
  induction h with
  | start => rfl
  | step _ hstep ih => exact (step_cfg hstep).trans ih
  | words _ _ ih => exact ih
  | answers _ _ ih => exact ih
  | elapsed _ _ ih => exact ih
  | reset _ ih => exact ih

/-! ## The invariant -/

/-- No input of the outside world is a field the invariant speaks of. -/
theorem Reachable.inv {s₀ s : State} (h : Reachable s₀ s) (h₀ : Inv s₀) : Inv s := by
  induction h with
  | start => exact h₀
  | step _ hstep ih => exact everyStepKeepsTheInvariant _ _ ih hstep
  | words _ _ ih => exact ih
  | answers _ _ ih => exact ih
  | elapsed _ _ ih => exact ih
  | reset _ ih => exact ih

theorem lawful_wr_p1_iff (cfg : Params) (v : Byte) :
    (MicroOp.wr .p1 v).lawful cfg = true ↔ v ∈ ctrlWords cfg :=
  List.contains_iff_mem

/-- Settles O53: the invariant holds at reset and is kept, and its clauses on FAIL and on the trace are the first two
claims. -/
theorem reachableStatesMeetTheInvariant : Obligations.ReachableStatesMeetTheInvariant := by
  intro s hreach
  have hinv : Inv s := hreach.inv resetMeetsTheInvariant
  have ⟨⟨hfail, _⟩, _, htrace⟩ := hinv
  refine ⟨hfail, fun e he v hop => ?_, hreach.cfg_eq, hinv⟩
  obtain ⟨hlawful, -⟩ := htrace e he
  exact (lawful_wr_p1_iff s.cfg v).1 (hop ▸ hlawful)

end Sys2Proof.Machine
end

section
/-! Exceptions (60_exceptions.md): the busy block (R140), the call that is never answered (R141), the two kinds of
failure (R130 to R132), and the bus an operation leaves to the next one (R137). -/

namespace Sys2Proof.Machine

/-! ## The busy block -/

/-- Settles O9: the step is the loop going on, which changes nothing of the interface and whose three endings answer
once, without a value, or wait in the same list. -/
theorem busyBlockTakesNoRequest : Obligations.BusyBlockTakesNoRequest := by
  intro s ops n hrst hseq
  obtain ⟨hcfg, haddr, hpath, hreq, -⟩ := runFrom_frame ops (ops.drop n) n s
  refine ⟨_, step_of_run hrst hseq, hreq, haddr, hpath, hcfg, ?_⟩
  rcases runFrom_cases ops (ops.drop n) n s with
    ⟨-, sq, -, -, -, re⟩ | ⟨_, _, _, -, -, -, sq, -, -, -, re⟩ | ⟨k, _, -, -, sq, -, -, re⟩
  · exact .inl ⟨sq, .ok, re⟩
  · exact .inl ⟨sq, .fail, re⟩
  · exact .inr ⟨⟨n + k, sq⟩, re⟩

/-! ## The call that is never answered -/

/-- A block that goes on at a call with no answer only takes its position there again. -/
theorem step_of_unanswered {s : State} {ops : List MicroOp} {n : Nat} {m : MicroOp} (hrst : s.rst = false)
    (hseq : s.seq = .run ops n) (hn : ops[n]? = some m) (hm : m.isPort = true) (ha : s.answers = []) :
    step s = .next (s.atPosition ops n (ops.drop n)) := by
  obtain ⟨hlt, rfl⟩ := List.getElem?_eq_some_iff.1 hn
  rw [step_of_run hrst hseq, State.resume, List.drop_eq_getElem_cons hlt]
  exact congrArg Host.Outcome.next (runFrom_pending (perform_pending _ _ (.inl ⟨hm, ha⟩)))

theorem core_run_of_step_self {s : State} (h : step s = .next s) (k : Nat) : core.run k s = .next s := by
  induction k with
  | zero => rfl
  | succ k ih => simpa [Host.Core.run, show core.step s = .next s from h] using ih

/-- Settles O13: the operation stops at the call (`exec_waits`), where the next step takes the same position again; the
request words and the timer are no part of that. -/
theorem unansweredCallHoldsTheBlockForEver : Obligations.UnansweredCallHoldsTheBlockForEver := by
  intro i s n w m hrst hn hm hends
  obtain ⟨t, ht, -, hseq, ha, -, hf, he, hr, hself⟩ := exec_waits i s n m [] w hn (.inl ⟨hm, rfl⟩) hends
  refine ⟨t, ht, hseq, hr, hf, he, fun ws v k => core_run_of_step_self ?_ k⟩
  obtain ⟨hrun, -, -⟩ := exec_of_seq_ne_idle ht (by simp [hseq])
  have hrst' : t.rst = false := hrun ▸ (runOperation_rst ..).trans hrst
  have hpos : t.atPosition (expansion s.cfg i) n ((expansion s.cfg i).drop n) = t :=
    Host.Outcome.next.inj ((step_of_unanswered hrst' hseq hn hm ha).symm.trans (hself hrst))
  have hstep := step_of_unanswered (s := { t with requests := ws, elapsed := v }) hrst' hseq hn hm ha
  exact hstep.trans (congrArg (fun u : State => Host.Outcome.next { u with requests := ws, elapsed := v }) hpos)

/-! ## The two kinds of failure -/

theorem setcur_of_invalidLineRequest {i : Instr} (h : invalidLineRequest i = true) :
    ∃ line col, i = .setcur line col ∧ line.toNat ∉ [1, 2, 3, 4] := by
  cases i with
  | setcur line col => exact ⟨line, col, rfl, (lineOf_isNone _).1 h⟩
  | _ => cases h

/-- Settles O20: an invalid line raises its own failure, and otherwise a failure is that of a call, whose message is
one of the adapter's answers. -/
theorem failureKindsAndTheirMessages : Obligations.FailureKindsAndTheirMessages := by
  intro i s t hdistinct ht
  cases hi : invalidLineRequest i with
  | true =>
    cases ht.symm.trans (exec_invalidLine hi s)
    exact .inr (.inr ⟨rfl, rfl, setcur_of_invalidLineRequest hi⟩)
  | false =>
    rcases endsWell_or_fails_or_waits (expansion s.cfg i) s with
      ⟨as, w, h⟩ | ⟨n, m, msg, as, w, hn, hm, h⟩ | ⟨n, m, as, w, hn, hm, h⟩
    · obtain ⟨u, hu, -, -, -, -, -, hf, he, -⟩ := exec_endsWell i s hi as w h
      cases ht.symm.trans hu
      exact .inl ⟨he, hf⟩
    · obtain ⟨u, hu, -, -, -, -, -, hf, he, -⟩ := exec_fails i s n m msg as w hn hm h
      cases ht.symm.trans hu
      have hmem : .fail msg ∈ s.answers := by simp [h.1]
      refine .inr (.inl ⟨hf, by rw [he], by rwa [he], ?_⟩)
      rw [he]
      rintro rfl
      exact hdistinct hmem
    · obtain ⟨u, hu, -, -, -, -, hf, he, -⟩ := exec_waits i s n m as w hn hm h
      cases ht.symm.trans hu
      exact .inl ⟨he, hf⟩

/-! ## The bus an operation leaves -/

/-- A list along which the enable pulse keeps its shape ends with EN low (40_framer.md R83). -/
theorem enHigh_lastWrite_of_pulseShape {cfg : Params} {ops : List MicroOp} {o1 : Byte}
    (h : pulseShape cfg o1 ops = true) : enHigh cfg (lastWrite .p1 ops o1) = false := by
  induction ops generalizing o1 with
  | nil => simpa [pulseShape, lastWrite] using h
  | cons m ops ih =>
    cases m with
    | mode p => simp [pulseShape] at h
    | wait c => exact ih h
    | wr p v =>
      cases p with
      | p0 =>
        obtain ⟨-, hrest⟩ := Bool.and_eq_true_iff.1 h
        exact ih hrest
      | p1 =>
        obtain ⟨-, hrest⟩ := Bool.and_eq_true_iff.1 h
        exact ih hrest

/-- A bus that is lost is not claimed to be usable. -/
theorem busReady_of_busLost {s : State} (h : s.busLost = true) : busReady s := by
  simp [busReady, h]

theorem busReady_setEndpoint {s : State} (h : busReady s) (addr : Int) (path : List Byte) :
    busReady (s.setEndpoint addr path) := by
  by_cases hsame : addr = s.addr ∧ path = s.path
  · obtain ⟨rfl, rfl⟩ := hsame
    rwa [State.setEndpoint_same]
  · rw [State.setEndpoint_other _ _ _ hsame]
    exact busReady_of_busLost rfl

/-- An operation other than INIT that ends well changes no direction, and its last write to port 1 has EN low. -/
theorem busReady_runOperation_of_endsWell {i : Instr} {s : State} {as : List Answer} {w : Nat} (hi : i ≠ .init)
    (hmasks : s.cfg.masksOk = true) (hready : busReady s) (h : endsWell s (expansion s.cfg i) as w) :
    busReady (runOperation (expansion s.cfg i) (operandLatches i) s) := by
  rw [runOperation_allOk (operandLatches i) (modeCount_expansion hi s.cfg) h]
  intro hlost
  obtain ⟨h0, h1, hlow⟩ := hready hlost
  obtain ⟨hshape, -⟩ := enablePulseKeepsItsShape s.cfg i s.port1.out hmasks
  exact ⟨h0, h1, enHigh_lastWrite_of_pulseShape (hshape hi hlow)⟩

/-- INIT that ends well has made both ports outputs, and from its zero writes on keeps the shape of the pulse. -/
theorem busReady_runOperation_init_of_endsWell {s : State} {as : List Answer} {w : Nat}
    (hmasks : s.cfg.masksOk = true) (h : endsWell s (expansion s.cfg .init) as w) :
    busReady (runOperation (expansion s.cfg .init) (operandLatches .init) s) := by
  have hrun : runOperation (expansion s.cfg .init) (operandLatches .init) s = _ :=
    runFrom_allOk_after_modes _ _ as w { s with latches := operandLatches .init }
      (modeCount_initOpsAfterModes s.cfg) h
  obtain ⟨-, hshape⟩ := enablePulseKeepsItsShape s.cfg .init 0#8 hmasks
  have hzero := enHigh_lastWrite_of_pulseShape hshape
  rw [hrun]
  exact fun _ => ⟨rfl, rfl, hzero⟩

/-- A run that has ended either met no failure or lost the bus (70_reset_and_hazards.md R161). -/
theorem runOperation_endsWell_or_busLost {ops : List MicroOp} {l : Latches} {s : State}
    (h : (runOperation ops l s).seq = .idle) :
    (∃ as w, endsWell s ops as w) ∨ (runOperation ops l s).busLost = true := by
  rcases endsWell_or_fails_or_waits ops s with
    hends | ⟨n, m, msg, as, w, hn, hm, hends⟩ | ⟨n, m, as, w, hn, hm, hends⟩
  · exact .inl hends
  · obtain ⟨-, -, -, -, -, -, -, -, hlost, -⟩ :=
      runFrom_fails ops _ (ops.drop (n + 1)) m msg as w 0 { s with latches := l } hm hends
    rw [← (cut_at hn).1] at hlost
    exact .inr hlost
  · obtain ⟨-, hseq, -⟩ := runFrom_waits ops _ (ops.drop (n + 1)) m as w 0 { s with latches := l } hm hends
    rw [← (cut_at hn).1] at hseq
    exact nomatch h.symm.trans hseq

/-- Settles O42: a run that ends well leaves the bus ready, one that fails leaves it lost, and what is no run leaves the
bus as it was or, at another endpoint, lost. -/
theorem aBusThatIsNotLostCanBeUsed : Obligations.ABusThatIsNotLostCanBeUsed := by
  intro i s t hmasks hready ht hidle
  rcases exec_cases i s with
    ⟨e, -⟩ | ⟨e, -, -, line, col, rfl, -⟩ | ⟨rfl, e⟩ | ⟨rfl, e⟩ | ⟨a, rfl, e⟩ | ⟨p, rfl, e⟩ <;>
    cases ht.symm.trans e
  · rcases runOperation_endsWell_or_busLost hidle with ⟨as, w, hends⟩ | hlost
    · by_cases hi : i = .init
      · subst hi
        exact busReady_runOperation_init_of_endsWell hmasks hends
      · exact busReady_runOperation_of_endsWell hi hmasks (hready hi) hends
    · exact busReady_of_busLost hlost
  · exact hready nofun
  · exact hready nofun
  · exact hready nofun
  · exact busReady_setEndpoint (hready nofun) (a.toNat : Int) s.path
  · exact busReady_setEndpoint (hready nofun) s.addr p

end Sys2Proof.Machine
end

section
/-! Reset in the middle of an operation (70_reset_and_hazards.md R150), the bus that is lost or not known (R153.3, R161),
and the least times of the operations (R167). -/

namespace Sys2Proof.Machine

/-! ## Reset (R150) -/

theorem step_of_rst {s : State} (h : s.rst = true) : step s = .next s.resetEvent :=
  if_pos h

@[simp] theorem State.resetEvent_port (s : State) (p : Port) : s.resetEvent.port p = s.resetPorts.port p := by
  cases p <;> rfl

/-- In IDLE, or where the reset values of ADDR and PATH lead elsewhere, nothing is known of the ports (R23, log 11). -/
theorem State.resetPorts_of_idle_or_elsewhere {s : State}
    (h : s.seq = .idle ∨ s.addr ≠ s.cfg.addrDefault ∨ s.path ≠ s.cfg.pathDefault) :
    s.resetPorts = s.forgetPorts := by
  cases hs : s.seq with
  | idle => simp [State.resetPorts, hs]
  | run ops n =>
    have haway : ¬ (s.addr = s.cfg.addrDefault ∧ s.path = s.cfg.pathDefault) :=
      not_and_or.2 (h.resolve_left (by simp [hs]))
    simp [State.resetPorts, hs, haway]

/-- In RUN at the reset values of ADDR and PATH, only the micro-operation in flight is dropped (93 U15, log 21). -/
theorem State.resetPorts_of_run {s : State} {ops : List MicroOp} {n : Nat} {m : MicroOp} (hs : s.seq = .run ops n)
    (hn : ops[n]? = some m) (ha : s.addr = s.cfg.addrDefault) (hp : s.path = s.cfg.pathDefault) :
    s.resetPorts = s.dropInFlight m := by
  simp [State.resetPorts, hs, hn, ha, hp]

theorem State.dropInFlight_port_eq_ite (s : State) (m : MicroOp) (p : Port) :
    (s.dropInFlight m).port p =
      if m.targets p then { s.port p with out := Config.freePins s.free } else s.port p := by
  have hlose (q : Port) : (s.loseOut q).port p =
      if q == p then { s.port p with out := Config.freePins s.free } else s.port p := by
    cases q <;> cases p <;> rfl
  cases m with
  | mode q => exact hlose q
  | wr q v => exact hlose q
  | wait c => rfl

/-- Settles O49: `resetEvent` field by field; the directions are those of `forgetPorts`. -/
theorem resetDropsTheOperationInProgress : Obligations.ResetDropsTheOperationInProgress := by
  intro s hrst
  refine ⟨_, step_of_rst hrst, rfl, rfl, rfl, rfl, rfl, rfl, s.resetEvent_trace, s.resetEvent_responses,
    s.resetEvent_cfg, rfl, fun h => ?_⟩
  rw [State.resetEvent_port0, State.resetEvent_port1, State.resetPorts_of_idle_or_elsewhere h]
  exact ⟨rfl, rfl⟩

/-- Settles O50: of the ports, the reset does no more than drop the micro-operation in flight. -/
theorem resetInTheMiddleLeavesThePortsAsAFailure : Obligations.ResetInTheMiddleLeavesThePortsAsAFailure := by
  intro s ops n m hrst hs hn ha hp
  have hport (p : Port) : s.resetEvent.port p = (s.dropInFlight m).port p := by
    rw [State.resetEvent_port, State.resetPorts_of_run hs hn ha hp]
  exact ⟨_, step_of_rst hrst, fun p h => by rw [hport, State.dropInFlight_port_eq_ite, if_pos h],
    fun p h => by rw [hport, State.dropInFlight_port_eq_ite, if_neg (by simp [h])]⟩

/-! ## A bus that cannot be used -/

/-- R153.3, R161: what is known of the bus leaves no strobe that reaches the display. -/
def Bus.Unusable (b : Bus) : Prop :=
  b.lost = true ∨ b.p0.dir = .unknown ∨ b.p1.dir = .unknown

/-- No port was made an output (20_memory.md R34): a `MODE`, where there is one, failed. -/
def NoModeOk (l : List Event) : Prop :=
  ∀ e ∈ l, ∀ p, e.op = .mode p → e.answer ≠ .ok

theorem strobeReaches_of_unusable {b : Bus} (h : b.Unusable) (cfg : Params) : strobeReaches cfg b = false := by
  rcases h with h | h | h <;> simp [strobeReaches, h]

/-- Only a `MODE` makes an unusable bus usable (60_exceptions.md R137, log 28). -/
theorem Bus.Unusable.after {b : Bus} (h : b.Unusable) {m : MicroOp} (hm : ∀ p, m ≠ .mode p) :
    (b.after m).Unusable := by
  have hdir (q : Port) (x : Pins) : (x.after q m).dir = x.dir := by
    cases m with
    | mode p => exact absurd rfl (hm p)
    | wr p v => rw [Pins.after]; split <;> rfl
    | wait c => rfl
  have hlost : (b.after m).lost = b.lost := by
    cases m with
    | mode p => exact absurd rfl (hm p)
    | wr p v => rfl
    | wait c => rfl
  exact h.imp hlost.trans (Or.imp (hdir _ _).trans (hdir _ _).trans)

/-- Nothing is known to reach the display over an unusable bus until a `MODE` answers ok. -/
theorem delivered_eq_nil_of_unusable {cfg : Params} {b : Bus} {l : List Event} (hb : b.Unusable) (hl : NoModeOk l) :
    delivered cfg b l = [] := by
  induction l generalizing b with
  | nil => rfl
  | cons e l ih =>
    obtain ⟨he, hrest⟩ := List.forall_mem_cons.1 hl
    cases ha : e.answer with
    | fail msg => simp [delivered, ha]
    | ok =>
      have hafter : (b.after e.op).Unusable := hb.after fun p hp => he p hp ha
      simp [delivered, ha, strobeReaches_of_unusable hb, ih hafter hrest]

/-- The events an operation adds are those of a first part of its expansion. -/
theorem exec_trace_prefix {i : Instr} {s t : State} (h : exec i s = .next t) :
    ∃ l, t.trace = s.trace ++ l ∧ l.map Event.op <+: expansion s.cfg i := by
  by_cases hi : (∃ a, i = .setaddr a) ∨ ∃ p, i = .setpath p
  · rcases hi with ⟨a, rfl⟩ | ⟨p, rfl⟩ <;> cases h <;> exact ⟨[], by simp, List.nil_prefix⟩
  · obtain ⟨ha, hp⟩ := not_or.1 hi
    obtain ⟨-, l, hl, hpre⟩ := exec_ranEvents (not_exists.1 ha) (not_exists.1 hp) h
    exact ⟨l, hl.trace, hpre⟩

/-- Settles O40: no operation but INIT holds a `MODE`, and without one the bus stays unusable. -/
theorem nothingIsKnownToReachTheDisplayBeforeInit : Obligations.NothingIsKnownToReachTheDisplayBeforeInit := by
  intro i s t hi hbus ht
  obtain ⟨l, htrace, hpre⟩ := exec_trace_prefix ht
  have hmode : NoModeOk l := fun e he p hop =>
    absurd hop ((modeCount_eq_zero_iff _).1 (modeCount_expansion hi s.cfg) e.op (hpre.subset (List.mem_map_of_mem he)) p)
  have hbus : s.bus.Unusable := hbus
  rw [htrace, List.drop_left]
  exact delivered_eq_nil_of_unusable hbus hmode

/-! ## From a failed call until INIT (R161) -/

/-- `t` came from `s` by events of which a failed one has lost the bus, and a bus lost before them is lost after them
unless a `MODE` among them answered ok (log 28). -/
def BusLostUntilMode (s t : State) : Prop :=
  ∃ l, t.trace = s.trace ++ l ∧ ((∃ e ∈ l, e.answer ≠ .ok) → t.busLost = true) ∧
    (s.busLost = true → NoModeOk l → t.busLost = true)

theorem BusLostUntilMode.of_trace_eq {s t : State} (ht : t.trace = s.trace) (hb : s.busLost = true → t.busLost = true) :
    BusLostUntilMode s t :=
  ⟨[], by simp [ht], nofun, fun h _ => hb h⟩

theorem State.setEndpoint_busLost {s : State} (h : s.busLost = true) (addr : Int) (path : List Byte) :
    (s.setEndpoint addr path).busLost = true := by
  unfold State.setEndpoint
  split
  · exact h
  · rfl

/-- A run stops at a failed call, which loses the bus; otherwise everything it performed answered ok. -/
theorem runFrom_busLost_or_allOk (ops rest : List MicroOp) (i : Nat) (s : State) :
    (runFrom ops i rest s).busLost = true ∨
      ∃ pre, (runFrom ops i rest s).trace = s.trace ++ okEvents s pre := by
  rcases endsWell_or_fails_or_waits rest s with
    ⟨as, w, h⟩ | ⟨n, m, msg, as, w, hn, hm, h⟩ | ⟨n, m, as, w, hn, hm, h⟩
  · obtain ⟨htrace, -⟩ := runFrom_completes ops rest as w i s h
    exact .inr ⟨rest, htrace⟩
  · obtain ⟨-, -, -, -, -, -, -, -, hlost, -⟩ := runFrom_fails ops _ (rest.drop (n + 1)) m msg as w i s hm h
    rw [← (cut_at hn).1] at hlost
    exact .inl hlost
  · obtain ⟨htrace, -⟩ := runFrom_waits ops _ (rest.drop (n + 1)) m as w i s hm h
    rw [← (cut_at hn).1] at htrace
    exact .inr ⟨rest.take n, htrace⟩

theorem runFrom_busLostUntilMode (ops rest : List MicroOp) (i : Nat) (s : State) :
    BusLostUntilMode s (runFrom ops i rest s) := by
  obtain ⟨l, hl, -⟩ := runFrom_ranEvents ops rest i s
  refine ⟨l, hl.trace, ?_⟩
  rcases runFrom_busLost_or_allOk ops rest i s with hlost | ⟨pre, hpre⟩
  · exact ⟨fun _ => hlost, fun _ _ => hlost⟩
  · obtain rfl : l = okEvents s pre := List.append_cancel_left (hl.trace.symm.trans hpre)
    have hok : ∀ e ∈ okEvents s pre, e.answer = .ok := by simp [okEvents]
    refine ⟨fun ⟨e, he, hfail⟩ => absurd (hok e he) hfail, fun hlost hmode => ?_⟩
    exact (hl.busLost (fun e he q hop => hmode e he q hop (hok e he)) hok).trans hlost

theorem exec_busLostUntilMode {i : Instr} {s t : State} (h : exec i s = .next t) : BusLostUntilMode s t := by
  rcases exec_cases i s with ⟨e, -⟩ | ⟨e, -⟩ | ⟨-, e⟩ | ⟨-, e⟩ | ⟨a, -, e⟩ | ⟨p, -, e⟩ <;> cases h.symm.trans e
  · exact runFrom_busLostUntilMode (expansion s.cfg i) _ 0 { s with latches := operandLatches i }
  · exact .of_trace_eq rfl id
  · exact .of_trace_eq rfl id
  · exact .of_trace_eq rfl id
  · exact .of_trace_eq (by simp) fun hlost => State.setEndpoint_busLost hlost _ _
  · exact .of_trace_eq (by simp) fun hlost => State.setEndpoint_busLost hlost _ _

theorem step_busLostUntilMode {s t : State} (h : step s = .next t) : BusLostUntilMode s t := by
  rcases step_cases s with
    ⟨-, e⟩ | ⟨-, ops, i, -, e⟩ | ⟨-, -, -, e⟩ | ⟨-, -, why, rest, -, e⟩ | ⟨-, -, i, rest, -, e⟩
  · cases h.symm.trans e
    exact .of_trace_eq s.resetEvent_trace fun _ => rfl
  · cases h.symm.trans e
    exact runFrom_busLostUntilMode ops _ i s
  · cases h.symm.trans e
    exact .of_trace_eq rfl id
  · cases h.symm.trans e
    exact .of_trace_eq rfl id
  · exact exec_busLostUntilMode (s := s.acceptRequest rest) (e ▸ h)

/-- Settles O41: `step_busLostUntilMode` says when the bus is lost, and a lost bus is unusable. -/
theorem fromAFailedCallOnNothingIsClaimedUntilInit : Obligations.FromAFailedCallOnNothingIsClaimedUntilInit := by
  intro s t h
  obtain ⟨l, htrace, hfailed, hstays⟩ := step_busLostUntilMode h
  refine ⟨fun hrst => ?_, l, htrace, hfailed, fun hlost hmode => ⟨hstays hlost hmode, ?_⟩⟩
  · cases h.symm.trans (step_of_rst hrst)
    rfl
  · exact delivered_eq_nil_of_unusable (b := s.bus) (.inl hlost) hmode

/-! ## Least times (R167) -/

@[simp] theorem leastTimeUs_wait (cfg : Params) (c : DelayClass) : leastTimeUs cfg [.wait c] = delayUs cfg c := rfl

@[simp] theorem leastTimeUs_commandWrite (cfg : Params) (b : Byte) :
    leastTimeUs cfg (commandWrite cfg b) = delayUs cfg .en + delayUs cfg .cmd := rfl

@[simp] theorem leastTimeUs_dataWrite (cfg : Params) (b : Byte) :
    leastTimeUs cfg (dataWrite cfg b) = delayUs cfg .en + delayUs cfg .data := rfl

theorem leastTimeUs_wrcmdOps (cfg : Params) (b : Byte) :
    leastTimeUs cfg (wrcmdOps cfg b) = delayUs cfg .en + delayUs cfg .cmd := by
  rw [wrcmdOps_eq, leastTimeUs_commandWrite]

theorem leastTimeUs_wrcmdOps_wait (cfg : Params) (b : Byte) (c : DelayClass) :
    leastTimeUs cfg (wrcmdOps cfg b ++ [.wait c]) = delayUs cfg .en + delayUs cfg .cmd + delayUs cfg c := by
  rw [leastTimeUs_append, leastTimeUs_wrcmdOps, leastTimeUs_wait]

theorem leastTimeUs_wrstrOps (cfg : Params) (text : List Byte) :
    leastTimeUs cfg (wrstrOps cfg text) = text.length * (delayUs cfg .en + delayUs cfg .data) := by
  rw [wrstrOps_eq, additive_text (leastTimeUs_append cfg) (leastTimeUs_dataWrite cfg), Nat.mul_comm]

theorem leastTimeUs_expansion_setcur (cfg : Params) (line : BitVec 4) (col : Byte) :
    leastTimeUs cfg (expansion cfg (.setcur line col)) =
      if line.toNat ∈ [1, 2, 3, 4] then delayUs cfg .en + delayUs cfg .cmd else 0 := by
  have hvalid := not_iff_comm.1 (lineOf_isNone line.toNat).symm
  cases h : lineOf line.toNat with
  | none =>
    rw [if_neg (by simp [← hvalid, h])]
    simp [expansion, h, leastTimeUs]
  | some l =>
    rw [if_pos (hvalid.1 (by simp [h])), expansion, h]
    exact leastTimeUs_wrcmdOps cfg _

/-- Settles O47: every timed operation is made of command writes, data writes and single waits. -/
theorem leastTimesOfTheOperations : Obligations.LeastTimesOfTheOperations := fun cfg b _ cur blk line col text =>
  ⟨leastTimeUs_dataWrite cfg b, leastTimeUs_wrcmdOps cfg b, leastTimeUs_wrcmdOps cfg (dispByte cfg cur blk),
    leastTimeUs_expansion_setcur cfg line col, leastTimeUs_wrcmdOps_wait cfg cfg.cmdClearDisplay .clear,
    leastTimeUs_wrcmdOps_wait cfg cfg.cmdCursorHome .home, leastTimeUs_wrstrOps cfg text, rfl, rfl, rfl, rfl⟩

end Sys2Proof.Machine
end

section
/-! The spec's own request words (95_test_vectors.md, V1 to V20). -/

namespace Sys2Proof.Machine

theorem decodeRequest_of_eq_encode {i : Instr} {ws : List Word} (hwf : i.wf = true) (h : ws = encode i) :
    decodeRequest ws = .legal i [] := by
  rw [h, ← List.append_nil (encode i)]
  exact decodeOfEncodeGivesTheOperation i [] hwf

/-- Settles O5: each legal request is the encoding of its operation (R63), and each illegal one is a case of R59. -/
theorem specWordsDecodeAsTheSpecSays : Obligations.SpecWordsDecodeAsTheSpecSays := by
  refine ⟨?init, ?nonzeroField, ?reservedOp, ?setdisp, ?setcur, ?wrstr, ?badPayload, ?wrcmd, ?wrdat, ?setaddr, ?setpath⟩
  case nonzeroField =>
    have hz : ¬ Instr.init.keepsZeroField 0x1001#16 := show lenField 0x1001#16 ≠ 0#12 by decide
    exact decodeRequest_of_nonzeroField rfl hz []
  case reservedOp =>
    have hop : opField 0xE123#16 ∈ reservedOps := by decide
    exact decodeRequest_of_reserved hop []
  case badPayload =>
    have hop : opField 0x6001#16 = 0x6#4 := rfl
    have hhigh : payloadHigh 0x0141#16 ≠ 0#8 := by decide
    exact decodeRequest_of_badPayload (.inl hop) (Nat.le_refl 1) ⟨_, List.mem_singleton_self _, hhigh⟩
  all_goals exact decodeRequest_of_eq_encode rfl rfl

end Sys2Proof.Machine
end
